-- ==== Sys2Proof/Word.lean ====
section
/-! DEFINITION. The words of the block (00_scope.md R11, R13, R14; 30_encoding.md R110). -/

namespace Sys2Proof

/-- A data value, a ring index, the timer count and the shift-register data register are 8 bits (R11). -/
abbrev Byte := BitVec 8

/-- The shift-register counter is 4 bits (R11). -/
abbrev Nibble := BitVec 4

/-- A command word is 16 bits (R110). -/
abbrev Word := BitVec 16

/-- A logic level of the serial line: `true` is 1, the idle (mark) level, `false` is 0, the space level (R52). -/
abbrev Level := Bool

end Sys2Proof
end

