-- ==== Sys2Proof/Syntax.lean ====
section
/-! DEFINITION. The commands of the block: one constructor per row of the opcode table
(30_encoding.md R112 to R119), and the names their operands use. -/

namespace Sys2Proof

/-- The buffer select `S` of the ring-buffer primitives (R113). -/
inductive RingSel where
  | tx
  | rx
  deriving DecidableEq, Repr

/-- The two-bit MODE field of the shift register (10_state.md R49). The value 3 is reserved:
no decodable word selects it (R122) and no step writes it. -/
inductive SrMode where
  /-- 0: no shift, no count, line released. -/
  | off
  /-- 1: the line is driven with `SR[7]`. -/
  | output
  /-- 2: the line is released and sampled into `SR[0]` on each tick. -/
  | input
  /-- 3: reserved (DEDUCED, safe: log 14). -/
  | reserved
  deriving DecidableEq, Repr

/-- The one-bit shift clock source (10_state.md R50). -/
inductive ClkSource where
  /-- 0: the timer overflow. -/
  | timerOvf
  /-- 1: direct toggle, which the spec never describes (44_transport.md R231). -/
  | toggle
  deriving DecidableEq, Repr

/-- The eight command classes (R111). -/
inductive CmdClass where
  | api
  | rb
  | codec
  | sr
  | timer
  | edge
  | handler
  | event
  deriving DecidableEq, Repr

/-- The block's operations, one constructor per row of `opcode_table.json`. -/
inductive Instr where
  -- class 0x0, API (R112)
  | initReceiver
  | transmitByte (b : Byte)
  | receiveByte
  | dataAvailable
  | flushBuffers
  | readRxOverflow
  | clearRxOverflow
  -- class 0x1, RB (R113)
  | rbPushTx (v : Byte)
  | rbPushRx (v : Byte)
  | rbPopTx
  | rbPopRx
  | rbIsEmptyTx
  | rbIsEmptyRx
  | rbFlushTx
  | rbFlushRx
  -- class 0x2, CODEC (R114)
  | reverseBits (b : Byte)
  -- class 0x3, SR (R115)
  | srConfigure (mode : SrMode) (clk : ClkSource)
  | srSetSeed (n : Nibble)
  | srReadData
  | srWriteData (v : Byte)
  | srEnableOvfIrq (e : Bool)
  | srClearFlag
  -- class 0x4, TIMER (R116)
  | timerWrite (v : Byte)
  | timerAdd (v : Byte)
  | timerStart
  | timerStop
  -- class 0x5, EDGE (R117)
  | edgeArm
  | edgeDisarm
  | lineRead
  -- class 0x6, HANDLER (R118)
  | isrEdge
  | isrTimerOvf
  | isrSrOvf
  -- class 0x7, EVENT (R119)
  | timeStep
  | lineSet (l : Level)
  | gieSet (g : Bool)
  | reset
  deriving DecidableEq, Repr

/-- The class of a command (R111 to R119). -/
def Instr.cmdClass : Instr → CmdClass
  | .initReceiver => .api
  | .transmitByte _ => .api
  | .receiveByte => .api
  | .dataAvailable => .api
  | .flushBuffers => .api
  | .readRxOverflow => .api
  | .clearRxOverflow => .api
  | .rbPushTx _ => .rb
  | .rbPushRx _ => .rb
  | .rbPopTx => .rb
  | .rbPopRx => .rb
  | .rbIsEmptyTx => .rb
  | .rbIsEmptyRx => .rb
  | .rbFlushTx => .rb
  | .rbFlushRx => .rb
  | .reverseBits _ => .codec
  | .srConfigure _ _ => .sr
  | .srSetSeed _ => .sr
  | .srReadData => .sr
  | .srWriteData _ => .sr
  | .srEnableOvfIrq _ => .sr
  | .srClearFlag => .sr
  | .timerWrite _ => .timer
  | .timerAdd _ => .timer
  | .timerStart => .timer
  | .timerStop => .timer
  | .edgeArm => .edge
  | .edgeDisarm => .edge
  | .lineRead => .edge
  | .isrEdge => .handler
  | .isrTimerOvf => .handler
  | .isrSrOvf => .handler
  | .timeStep => .event
  | .lineSet _ => .event
  | .gieSet _ => .event
  | .reset => .event

end Sys2Proof
end

