-- ==== Sys2Proof/WellFormed.lean ====
section
/-! DEFINITION. Which terms of `Instr` an encoding exists for (30_encoding.md R121, R122). The operand types
bound every operand but one: the MODE field's value 3 is reserved. -/

namespace Sys2Proof

/-- MODE 3 is reserved (R49, R115, R122). -/
def SrMode.legal : SrMode → Bool
  | .off => true
  | .output => true
  | .input => true
  | .reserved => false

/-- A command is well formed when it meets its row's stated constraint; "the only such constraint is
`SR_CONFIGURE`'s MODE != 3" (R121). -/
def Instr.wf : Instr → Bool
  | .srConfigure mode _ => mode.legal
  | .initReceiver => true
  | .transmitByte _ => true
  | .receiveByte => true
  | .dataAvailable => true
  | .flushBuffers => true
  | .readRxOverflow => true
  | .clearRxOverflow => true
  | .rbPushTx _ => true
  | .rbPushRx _ => true
  | .rbPopTx => true
  | .rbPopRx => true
  | .rbIsEmptyTx => true
  | .rbIsEmptyRx => true
  | .rbFlushTx => true
  | .rbFlushRx => true
  | .reverseBits _ => true
  | .srSetSeed _ => true
  | .srReadData => true
  | .srWriteData _ => true
  | .srEnableOvfIrq _ => true
  | .srClearFlag => true
  | .timerWrite _ => true
  | .timerAdd _ => true
  | .timerStart => true
  | .timerStop => true
  | .edgeArm => true
  | .edgeDisarm => true
  | .lineRead => true
  | .isrEdge => true
  | .isrTimerOvf => true
  | .isrSrOvf => true
  | .timeStep => true
  | .lineSet _ => true
  | .gieSet _ => true
  | .reset => true

end Sys2Proof
end

