-- ==== Sys2Proof/Decode.lean ====
section
/-! DEFINITION. The command word: its fields (30_encoding.md R110, R120), the decoder, total on every 16-bit
word (R121, R122), the encoder, and the opcode table's rows as data. -/

namespace Sys2Proof

/-- `CLASS` is `CW[15:12]` (R110). -/
def classField (w : Word) : Nibble := w.extractLsb' 12 4

/-- `OP` is `CW[11:8]` (R110). -/
def opField (w : Word) : Nibble := w.extractLsb' 8 4

/-- `IMM` is `CW[7:0]` (R110). -/
def immField (w : Word) : Byte := w.extractLsb' 0 8

/-- A word put together from its three fields, `{CLASS, OP, IMM}` (R110). -/
def wordOf (cls op : Nibble) (imm : Byte) : Word := (cls ++ op ++ imm : BitVec 16)

/-- Why a word decodes to no row: each is refused with reason `RESERVED_ENCODING` (R122). -/
inductive DecodeError where
  /-- CLASS 8..15. -/
  | reservedClass
  /-- A reserved OP value of a used class. -/
  | reservedOp
  /-- A nonzero bit in a field the row requires to be 0. -/
  | mustBeZero
  /-- `SR_CONFIGURE` with MODE = 3. -/
  | reservedMode
  deriving DecidableEq, Repr

/-- What a word decodes to: exactly one command, or invalid with a reason (R121). -/
inductive Decoded where
  | instr (i : Instr)
  | invalid (e : DecodeError)
  deriving DecidableEq, Repr

/-- A row whose `IMM` must be 0 (R112 to R119). -/
def noOperand (imm : Byte) (i : Instr) : Decoded :=
  if imm = 0 then .instr i else .invalid .mustBeZero

/-- A one-bit operand is `IMM[0]`, with `IMM[7:1] = 0` (R115, R119, R120). -/
def bitOperand (imm : Byte) (f : Bool → Instr) : Decoded :=
  if imm.extractLsb' 1 7 = 0 then .instr (f (imm.getLsbD 0)) else .invalid .mustBeZero

/-- A seed is `IMM[3:0]`, with `IMM[7:4] = 0` (R115, R120). -/
def seedOperand (imm : Byte) : Decoded :=
  if imm.extractLsb' 4 4 = 0 then .instr (.srSetSeed (imm.extractLsb' 0 4)) else .invalid .mustBeZero

/-- The MODE field, `IMM[1:0]` (R49, R115). -/
def modeOfBits (m : BitVec 2) : SrMode :=
  if m = 0 then .off else if m = 1 then .output else if m = 2 then .input else .reserved

/-- The MODE field's bits (R49). -/
def modeBits : SrMode → BitVec 2
  | .off => 0
  | .output => 1
  | .input => 2
  | .reserved => 3

/-- The CLK field, `IMM[2]` (R50, R115). -/
def clkOfBit (c : Bool) : ClkSource := if c then .toggle else .timerOvf

/-- The CLK field's bit (R50). -/
def clkBit : ClkSource → Bool
  | .timerOvf => false
  | .toggle => true

/-- `SR_CONFIGURE`: IMM[1:0] = MODE, IMM[2] = CLK, IMM[7:3] = 0 (R115); MODE = 3 is reserved (R122). -/
def configureOperand (imm : Byte) : Decoded :=
  if imm.extractLsb' 3 5 = 0 then
    if imm.extractLsb' 0 2 = 3 then .invalid .reservedMode
    else .instr (.srConfigure (modeOfBits (imm.extractLsb' 0 2)) (clkOfBit (imm.getLsbD 2)))
  else .invalid .mustBeZero

/-- The opcode map of R112 to R119, on the three fields of a word. -/
def decodeFields (cls op : Nat) (imm : Byte) : Decoded :=
  match cls with
  | 0x0 =>
    match op with
    | 0x1 => noOperand imm .initReceiver
    | 0x2 => .instr (.transmitByte imm)
    | 0x3 => noOperand imm .receiveByte
    | 0x4 => noOperand imm .dataAvailable
    | 0x5 => noOperand imm .flushBuffers
    | 0x6 => noOperand imm .readRxOverflow
    | 0x7 => noOperand imm .clearRxOverflow
    | _ => .invalid .reservedOp
  | 0x1 =>
    match op with
    | 0x0 => .instr (.rbPushTx imm)
    | 0x1 => .instr (.rbPushRx imm)
    | 0x2 => noOperand imm .rbPopTx
    | 0x3 => noOperand imm .rbPopRx
    | 0x4 => noOperand imm .rbIsEmptyTx
    | 0x5 => noOperand imm .rbIsEmptyRx
    | 0x6 => noOperand imm .rbFlushTx
    | 0x7 => noOperand imm .rbFlushRx
    | _ => .invalid .reservedOp
  | 0x2 =>
    match op with
    | 0x0 => .instr (.reverseBits imm)
    | _ => .invalid .reservedOp
  | 0x3 =>
    match op with
    | 0x0 => configureOperand imm
    | 0x1 => seedOperand imm
    | 0x2 => noOperand imm .srReadData
    | 0x3 => .instr (.srWriteData imm)
    | 0x4 => bitOperand imm .srEnableOvfIrq
    | 0x5 => noOperand imm .srClearFlag
    | _ => .invalid .reservedOp
  | 0x4 =>
    match op with
    | 0x0 => .instr (.timerWrite imm)
    | 0x1 => .instr (.timerAdd imm)
    | 0x2 => noOperand imm .timerStart
    | 0x3 => noOperand imm .timerStop
    | _ => .invalid .reservedOp
  | 0x5 =>
    match op with
    | 0x0 => noOperand imm .edgeArm
    | 0x1 => noOperand imm .edgeDisarm
    | 0x2 => noOperand imm .lineRead
    | _ => .invalid .reservedOp
  | 0x6 =>
    match op with
    | 0x0 => noOperand imm .isrEdge
    | 0x1 => noOperand imm .isrTimerOvf
    | 0x2 => noOperand imm .isrSrOvf
    | _ => .invalid .reservedOp
  | 0x7 =>
    match op with
    | 0x0 => noOperand imm .timeStep
    | 0x1 => bitOperand imm .lineSet
    | 0x2 => bitOperand imm .gieSet
    | 0xF => noOperand imm .reset
    | _ => .invalid .reservedOp
  | _ => .invalid .reservedClass

/-- Decoding is total (R121). -/
def decode (w : Word) : Decoded := decodeFields (classField w).toNat (opField w).toNat (immField w)

/-- A one-bit operand in its place, `IMM[0]`. -/
def bitImm (b : Bool) : Byte := if b then 1 else 0

/-- A seed in its place, `IMM[3:0]`. -/
def seedImm (n : Nibble) : Byte := (0#4 ++ n : BitVec 8)

/-- MODE and CLK in their places, `{0, CLK, MODE}` (R115). -/
def configureImm (mode : SrMode) (clk : ClkSource) : Byte :=
  (0#5 ++ BitVec.ofBool (clkBit clk) ++ modeBits mode : BitVec 8)

/-- The word of a command (R112 to R119). -/
def encode : Instr → Word
  | .initReceiver => wordOf 0x0 0x1 0
  | .transmitByte b => wordOf 0x0 0x2 b
  | .receiveByte => wordOf 0x0 0x3 0
  | .dataAvailable => wordOf 0x0 0x4 0
  | .flushBuffers => wordOf 0x0 0x5 0
  | .readRxOverflow => wordOf 0x0 0x6 0
  | .clearRxOverflow => wordOf 0x0 0x7 0
  | .rbPushTx v => wordOf 0x1 0x0 v
  | .rbPushRx v => wordOf 0x1 0x1 v
  | .rbPopTx => wordOf 0x1 0x2 0
  | .rbPopRx => wordOf 0x1 0x3 0
  | .rbIsEmptyTx => wordOf 0x1 0x4 0
  | .rbIsEmptyRx => wordOf 0x1 0x5 0
  | .rbFlushTx => wordOf 0x1 0x6 0
  | .rbFlushRx => wordOf 0x1 0x7 0
  | .reverseBits b => wordOf 0x2 0x0 b
  | .srConfigure mode clk => wordOf 0x3 0x0 (configureImm mode clk)
  | .srSetSeed n => wordOf 0x3 0x1 (seedImm n)
  | .srReadData => wordOf 0x3 0x2 0
  | .srWriteData v => wordOf 0x3 0x3 v
  | .srEnableOvfIrq e => wordOf 0x3 0x4 (bitImm e)
  | .srClearFlag => wordOf 0x3 0x5 0
  | .timerWrite v => wordOf 0x4 0x0 v
  | .timerAdd v => wordOf 0x4 0x1 v
  | .timerStart => wordOf 0x4 0x2 0
  | .timerStop => wordOf 0x4 0x3 0
  | .edgeArm => wordOf 0x5 0x0 0
  | .edgeDisarm => wordOf 0x5 0x1 0
  | .lineRead => wordOf 0x5 0x2 0
  | .isrEdge => wordOf 0x6 0x0 0
  | .isrTimerOvf => wordOf 0x6 0x1 0
  | .isrSrOvf => wordOf 0x6 0x2 0
  | .timeStep => wordOf 0x7 0x0 0
  | .lineSet l => wordOf 0x7 0x1 (bitImm l)
  | .gieSet g => wordOf 0x7 0x2 (bitImm g)
  | .reset => wordOf 0x7 0xF 0

/-- The table numbers a word's bits as R110 does, bit 0 the least significant; every row has 16 bits, and no
command is longer (R110), so a wider bit string is no command. R110 knows no other length: that fewer bits than 16 are
extended with zeros above is the model's choice (DESIGN CHOICE, log 12). -/
def decodeTableWord (nbits w : Nat) : Option Instr :=
  if nbits ≤ 16 then
    match decode (BitVec.ofNat 16 (w % 2 ^ nbits)) with
    | .instr i => some i
    | .invalid _ => none
  else none

/-- One row of `opcode_table.json`: the bits of `mask` are fixed, with the values of `pattern`. -/
structure OpcodeRow where
  pattern : Word
  mask : Word
  deriving DecidableEq, Repr

/-- A word matches a row when its fixed bits are the row's (R121). -/
def OpcodeRow.matchesWord (r : OpcodeRow) (w : Word) : Bool := w &&& r.mask == r.pattern

/-- The match and mask columns of `opcode_table.json`, in the table's order. The decoder does not read this
list; a statement says that both describe the same words. -/
def opcodeRows : List OpcodeRow :=
  [⟨0x0100, 0xFFFF⟩, ⟨0x0200, 0xFF00⟩, ⟨0x0300, 0xFFFF⟩, ⟨0x0400, 0xFFFF⟩, ⟨0x0500, 0xFFFF⟩, ⟨0x0600, 0xFFFF⟩,
   ⟨0x0700, 0xFFFF⟩] ++
  [⟨0x1000, 0xFF00⟩, ⟨0x1100, 0xFF00⟩, ⟨0x1200, 0xFFFF⟩, ⟨0x1300, 0xFFFF⟩, ⟨0x1400, 0xFFFF⟩, ⟨0x1500, 0xFFFF⟩,
   ⟨0x1600, 0xFFFF⟩, ⟨0x1700, 0xFFFF⟩] ++
  [⟨0x2000, 0xFF00⟩] ++
  [⟨0x3000, 0xFFF8⟩, ⟨0x3100, 0xFFF0⟩, ⟨0x3200, 0xFFFF⟩, ⟨0x3300, 0xFF00⟩, ⟨0x3400, 0xFFFE⟩, ⟨0x3500, 0xFFFF⟩] ++
  [⟨0x4000, 0xFF00⟩, ⟨0x4100, 0xFF00⟩, ⟨0x4200, 0xFFFF⟩, ⟨0x4300, 0xFFFF⟩] ++
  [⟨0x5000, 0xFFFF⟩, ⟨0x5100, 0xFFFF⟩, ⟨0x5200, 0xFFFF⟩] ++
  [⟨0x6000, 0xFFFF⟩, ⟨0x6100, 0xFFFF⟩, ⟨0x6200, 0xFFFF⟩] ++
  [⟨0x7000, 0xFFFF⟩, ⟨0x7100, 0xFFFE⟩, ⟨0x7200, 0xFFFE⟩, ⟨0x7F00, 0xFFFF⟩]

end Sys2Proof
end

