-- ==== Sys2Proof/Config.lean ====
section
/-! DEFINITION. What an implementation fixes (00_scope.md R8), the example configuration (R12), and the
free values: what the spec leaves unspecified, with no body, so that no proof can see a value. -/

namespace Sys2Proof

/-- The configuration parameters of R8. Each is a compile-time constant; no step changes one.
The constants derived from them and the check of R10 are in `Machine/Constants.lean`. -/
structure Config where
  /-- `F_CPU`, system clock frequency in Hz. -/
  fCpu : Nat
  /-- `PRESCALER`, CPU clocks per timer count. -/
  prescaler : Nat
  /-- `BAUD`, target baud rate in bit/s. -/
  baud : Nat
  /-- `N_TX`, TX ring-buffer capacity. -/
  nTx : Nat
  /-- `N_RX`, RX ring-buffer capacity. -/
  nRx : Nat
  /-- `D_ENTRY`, edge-handler entry latency, in timer counts, that the first reload compensates. -/
  dEntry : Nat
  /-- `R_ADJ`, correction added to the steady-state reload; default 0. -/
  rAdj : Int := 0
  deriving DecidableEq, Repr

namespace Config

/-- The example configuration of R12, which the test vectors use. -/
def example12 : Config where
  fCpu := 1000000
  prescaler := 1
  baud := 9600
  nTx := 4
  nRx := 16
  dEntry := 17
  rAdj := 0

/-- FREE VALUE: the byte `INFLIGHT` takes at the n-th `RESET` (R65, R380: a draw, no claim may depend on it). Log 4. -/
opaque resetInflight : Nat → Byte

/-- FREE VALUE: the byte `SR` takes at the n-th `RESET` (R65, R380). Log 4. -/
opaque resetSr : Nat → Byte

/-- FREE VALUE: the value 0..15 `CNT` takes at the n-th `RESET` (R65, R380). Log 4. -/
opaque resetCnt : Nat → Nibble

/-- FREE VALUE: what slot `i` of a ring holds after the n-th `RESET` until it is written (R39, R40, R65, R380). Log 5. -/
opaque resetSlot : Nat → RingSel → Nat → Byte

end Config

end Sys2Proof
end

