-- ==== Sys2Proof/Machine/State.lean ====
section
/-! DEFINITION. The block's state (10_state.md R30 to R65), the outcomes that are not a next state
(60_exceptions.md R340 to R344), and the state at power-on. Field names are R30's; the flags of one control
register stand in one structure. -/

namespace Sys2Proof.Machine

/-- Byte storage: (slot index, byte) pairs with strictly rising indices. A slot that is not listed has not been
written since launch or since the last `RESET`. -/
abbrev Memory := List Host.Cell

/-- The `STATUS` flags (R31 to R37). -/
structure Status where
  /-- R31: set while the line role is Transmitting. -/
  txFromBufferActive : Bool
  /-- R32: the burst on the wire is the first half-frame of the in-flight byte. -/
  txHalfFrameActive : Bool
  /-- R33: set while the line role is Receiving. -/
  rxPackageActive : Bool
  /-- R34: the latched RX-overflow flag. -/
  rxOverflow : Bool
  deriving DecidableEq, Repr

/-- A ring buffer: its indices and storage (R39, R40). -/
structure RingBuffer where
  head : Byte
  tail : Byte
  buf : Memory
  deriving DecidableEq, Repr

/-- The bit-clock timer: `TCNT` (R43) and the flags of `TCTL` (R44 to R46). -/
structure Timer where
  /-- `TCNT`. -/
  tcnt : Byte
  /-- `TIMER_RUN`. -/
  run : Bool
  /-- `TIMER_OVF_IE`. -/
  ovfIe : Bool
  /-- `TIMER_OVF_FLAG`. -/
  ovfFlag : Bool
  deriving DecidableEq, Repr

/-- The shift-register peripheral: `SR` (R47), `CNT` (R48) and `SRCTL` (R49 to R51, R53). -/
structure ShiftReg where
  /-- `SR`. -/
  sr : Byte
  /-- `CNT`. -/
  cnt : Nibble
  /-- `SR_MODE`. -/
  mode : SrMode
  /-- `SR_CLK`. -/
  clk : ClkSource
  /-- `SR_OVF_IE`. -/
  ovfIe : Bool
  /-- `SR_OVF_FLAG`. -/
  ovfFlag : Bool
  deriving DecidableEq, Repr

/-- The edge detector, `EDGECTL` (R54 to R56). -/
structure EdgeDetector where
  /-- `EDGE_IE`. -/
  ie : Bool
  /-- `EDGE_FLAG`. -/
  flag : Bool
  /-- `LAST_LEVEL`. -/
  lastLevel : Level
  deriving DecidableEq, Repr

/-- The main flow's position inside a host command, `MAINPC` (R58, 46_public_api.md R301). -/
inductive MainPc where
  | ready
  | tbSpace (v : Byte)
  | tbCheck
  | tbWaitRx
  | rbWait
  deriving DecidableEq, Repr

/-- `RET`: a byte, a bool or none (R59). -/
inductive Ret where
  | none
  | byte (b : Byte)
  | bool (b : Bool)
  deriving DecidableEq, Repr

/-- The fault codes of R341, in the order of their numbers 1 to 7. -/
inductive FaultCode where
  /-- 1, raised by `settle` when `SR_MODE = OUTPUT` and `EXT_LEVEL = 0` at the end of a step. Safe: the spec's own fault. -/
  | collision
  /-- 2, raised by `FLUSH_BUFFERS` when a transfer flag is set. Safe: the spec's own fault. -/
  | flushDuringTransfer
  /-- 3, raised by `INIT_RECEIVER` when a transfer flag is set. Safe: the spec's own fault. -/
  | initDuringTransfer
  /-- 4, raised by `ISR_SR_OVF` when neither transfer flag is set. Safe: the spec's own fault. -/
  | spuriousSrOvf
  /-- 5, raised by `ISR_EDGE` when a transfer flag is set. Safe: the spec's own fault. -/
  | edgeInTransfer
  /-- 6, raised by `RB_POP` when the ring is empty. Safe: the spec's own fault. -/
  | popEmpty
  /-- 7, raised by `MemRead` and `MemWrite` on an index outside 0..N-1. Safe: the spec's own fault. -/
  | index
  deriving DecidableEq, Repr

/-- The three interrupt handlers (R5, R345). -/
inductive Irq where
  | edge
  | timerOvf
  | srOvf
  deriving DecidableEq, Repr

/-- THE MODEL'S OWN: who hands a word to `MAIN` (R111, R300): the host, or the component harness of D32, which may
also issue the words of classes 0x1 to 0x6 (DEDUCED: log 8). -/
inductive Issuer where
  | host
  | harness
  deriving DecidableEq, Repr

/-- THE MODEL'S OWN: a command word waiting to be handed to `MAIN`. -/
structure Request where
  issuer : Issuer
  word : Word
  deriving DecidableEq, Repr

/-- THE MODEL'S OWN: which agent of R5 takes a step. An `ENV` step carries the event word it issues. -/
inductive Agent where
  | main
  | handler (h : Irq)
  | clock
  | env (w : Word)
  deriving DecidableEq, Repr

/-- The complete state of the block (R30), with the configuration its step relation has as a parameter and the
inputs the model reads as data. -/
structure State where
  /-- The configuration of R8: a parameter of the step relation, which no step writes. Log 1. -/
  cfg : Config
  /-- `STATUS`. -/
  status : Status
  /-- `INFLIGHT` (R38). -/
  inflight : Byte
  /-- `TX_HEAD`, `TX_TAIL`, `TXBUF` (R39). -/
  tx : RingBuffer
  /-- `RX_HEAD`, `RX_TAIL`, `RXBUF` (R40). -/
  rx : RingBuffer
  /-- `TCNT`, `TCTL`. -/
  timer : Timer
  /-- `SR`, `CNT`, `SRCTL`. -/
  shift : ShiftReg
  /-- `EDGECTL`. -/
  edge : EdgeDetector
  /-- `EXT_LEVEL` (R52). -/
  extLevel : Level
  /-- `GIE` (R57). -/
  gie : Bool
  /-- `MAINPC` (R58). -/
  mainPc : MainPc
  /-- `RET` (R59). -/
  ret : Ret
  /-- `FAULTS` (R60): a set, as a list of codes with strictly rising numbers. -/
  faults : List FaultCode
  /-- `REFUSED` (R61). -/
  refused : Bool
  /-- `T` (R62). -/
  time : Nat
  /-- THE MODEL'S OWN: how many `RESET` draws there have been, the argument of the free values. Log 4. -/
  draws : Nat
  /-- THE MODEL'S OWN INPUT: the words still to be handed to `MAIN`, oldest first. Log 2. -/
  inbox : List Request
  /-- THE MODEL'S OWN INPUT: which agents take the next steps, the next one first. Log 2. -/
  sched : List Agent
  deriving DecidableEq, Repr

/-- Why a step has no next state. -/
inductive Fault where
  /-- A step raised a fault of R341; `after` is the faulted state, in which `FAULTS` holds the code. Safe: the
  machine is quiescent after it. -/
  | raised (code : FaultCode) (after : State)
  /-- Raised by `step` in a state whose `FAULTS` is not empty or whose `REFUSED` is 1: no agent has a further step
  (R341, R344). Safe. -/
  | quiescent
  /-- Raised by `step` when the schedule names an agent that has no step in this state (R300, R345, R346). Safe: the
  machine has no such step. Log 9. -/
  | noAgentStep
  deriving DecidableEq, Repr

/-- The refusal reasons of R344. -/
inductive RefusalReason where
  /-- A word that decodes to no row. Raised by `step` on the word, by `execSrConfigure` on the reserved mode. Safe. -/
  | reservedEncoding
  /-- A class 0x1 to 0x6 word from the host, or a class 0x7 word handed to `MAIN` by anyone. Raised by `step`. Safe. -/
  | internalCommand
  /-- `SR_CONFIGURE` with CLK = TOGGLE. Raised by `execSrConfigure`. Safe. -/
  | unmodelledClockSource
  deriving DecidableEq, Repr

/-- Why a step was refused. -/
inductive Refusal where
  /-- An instruction that has no meaning yet, by its mnemonic. Raised by an arm of `exec`; safe. No arm does. -/
  | notModelled (mnemonic : String)
  /-- A refusal of R344; `after` is the state it leaves, in which only `REFUSED` has changed. Safe. -/
  | refusedStep (reason : RefusalReason) (after : State)
  deriving DecidableEq, Repr

/-- The outcome of a step: the three of R340. -/
abbrev Outcome := Host.Outcome State Fault Refusal

/-- The state at power-on of a block with configuration `c` (R65, R383), with the unspecified fields at
`inflight`, `sr` and `cnt` and no ring slot written. -/
def State.launch (c : Config) (inflight sr : Byte) (cnt : Nibble) : State where
  cfg := c
  status :=
    { txFromBufferActive := false, txHalfFrameActive := false, rxPackageActive := false, rxOverflow := false }
  inflight := inflight
  tx := { head := 0, tail := 0, buf := [] }
  rx := { head := 0, tail := 0, buf := [] }
  timer := { tcnt := 0, run := false, ovfIe := false, ovfFlag := false }
  shift := { sr := sr, cnt := cnt, mode := .off, clk := .timerOvf, ovfIe := false, ovfFlag := false }
  edge := { ie := false, flag := false, lastLevel := true }
  extLevel := true
  gie := false
  mainPc := .ready
  ret := .none
  faults := []
  refused := false
  time := 0
  draws := 0
  inbox := []
  sched := []

/-- The machine right after power-on: the launch state of R383 with the example configuration of R12 and the
unspecified registers at 0 (DESIGN CHOICE, log 6). -/
def State.reset : State := State.launch Config.example12 0 0 0

end Sys2Proof.Machine
end

