-- ==== Sys2Proof/Machine/Constants.lean ====
section
/-! DEFINITION. The constants derived from a configuration (00_scope.md R9, 45_bit_clock.md R270) and the check
that refuses a configuration (R10, 60_exceptions.md R343). -/

namespace Sys2Proof

namespace Config

/-- `P`, the bit period in timer counts (R9). -/
def bitPeriod (c : Config) : Nat := c.fCpu / c.baud / c.prescaler

/-- `H`, half a bit period (R9). -/
def halfPeriod (c : Config) : Nat := c.bitPeriod / 2

/-- `R_S = (256 - P + R_ADJ) mod 256`, the steady-state reload (R9). -/
def reloadSteady (c : Config) : Byte := BitVec.ofInt 8 (256 - (c.bitPeriod : Int) + c.rAdj)

/-- `R_I = 256 - H + D_ENTRY`, the initial (first-edge) count (R9). -/
def reloadInitial (c : Config) : Byte := BitVec.ofNat 8 (256 - c.halfPeriod + c.dEntry)

/-- `TX_START = R_S` (R9, R270). -/
def txStart (c : Config) : Byte := c.reloadSteady

/-- `N_TX` or `N_RX`. -/
def capacity (c : Config) : RingSel → Nat
  | .tx => c.nTx
  | .rx => c.nRx

/-- `MASK_TX` or `MASK_RX`, `N - 1` (R9). -/
def mask (c : Config) (r : RingSel) : Byte := BitVec.ofNat 8 (c.capacity r - 1)

/-- The legal capacities: a power of two, 2..256 (R8, 41_ring_buffers.md R173). -/
def legalCapacities : List Nat := [2, 4, 8, 16, 32, 64, 128, 256]

/-- The configuration check (R8, R10). -/
def valid (c : Config) : Bool :=
  decide (0 < c.fCpu) && decide (1 ≤ c.prescaler) && decide (0 < c.baud)
    && legalCapacities.contains c.nTx && legalCapacities.contains c.nRx
    && decide (2 ≤ c.bitPeriod) && decide (c.bitPeriod ≤ 256) && decide (c.dEntry < c.halfPeriod)

end Config

/-- `SEED_TX = 16 - 5`, the counter seed for each transmit half-frame (R9). -/
def seedTx : Nibble := BitVec.ofNat 4 (16 - 5)

/-- `SEED_RX = 16 - 9`, the counter seed for the receive burst (R9). -/
def seedRx : Nibble := BitVec.ofNat 4 (16 - 9)

/-- `SEED_PRIME = 16 - 1`, the counter seed for the one-tick priming burst (R9). -/
def seedPrime : Nibble := BitVec.ofNat 4 (16 - 1)

/-- Building a block: a configuration that breaks a constraint is refused before the block exists, "the model
refuses to build such a configuration" (R10, R343). -/
def Machine.build (c : Config) (inflight sr : Byte) (cnt : Nibble) : Option Machine.State :=
  if c.valid then some (Machine.State.launch c inflight sr cnt) else none

end Sys2Proof
end

