-- ==== Sys2Proof/Machine/Operands.lean ====
section
/-! DEFINITION. Byte forms: the codec's bit reversal (42_frame_codec.md R190), the half-frame layouts and the wire
frame (30_encoding.md R124 to R128). -/

namespace Sys2Proof.Machine

/-- `REVERSE_BITS`: result[i] = b[7 - i], the normative loop form (R190). -/
def reverseBits (b : Byte) : Byte :=
  (BitVec.ofBool (b.getLsbD 0) ++ BitVec.ofBool (b.getLsbD 1) ++ BitVec.ofBool (b.getLsbD 2)
    ++ BitVec.ofBool (b.getLsbD 3) ++ BitVec.ofBool (b.getLsbD 4) ++ BitVec.ofBool (b.getLsbD 5)
    ++ BitVec.ofBool (b.getLsbD 6) ++ BitVec.ofBool (b.getLsbD 7) : BitVec 8)

/-- The masked-shift form of R190, "a fixed sequence of masked shifts"; it agrees with the loop form on every byte. -/
def reverseBitsMasked (b : Byte) : Byte :=
  let x := ((b &&& 0xF0) >>> 4) ||| ((b &&& 0x0F) <<< 4)
  let y := ((x &&& 0xCC) >>> 2) ||| ((x &&& 0x33) <<< 2)
  ((y &&& 0xAA) >>> 1) ||| ((y &&& 0x55) <<< 1)

/-- `HF1(r) = 0x80 | (r >> 2)`: idle-high lead, start bit, upper bits of the stored byte (R126). -/
def halfFrame1 (r : Byte) : Byte := 0x80 ||| (r >>> 2)

/-- `HF2(r) = ((r << 3)[7:0]) | 0x07`: the remaining data bits and the stop bit (R127). -/
def halfFrame2 (r : Byte) : Byte := (r <<< 3) ||| 0x07

/-- The priming value loaded at the start of a transmission (R128). -/
def primingValue : Byte := 0xFF

/-- The wire frame of one byte: start bit, 8 data bits least-significant first, stop bit (R124). -/
def wireFrame (b : Byte) : List Level :=
  false :: ((List.range 8).map fun i => b.getLsbD i) ++ [true]

end Sys2Proof.Machine
end

