-- ==== Sys2Proof/Machine/Flags.lean ====
section
/-! DEFINITION. What is computed from the flags: the line level (10_state.md R52), the line role (43_line_arbiter.md
R200), the handler enables and their priority (60_exceptions.md R345, R346), the packed layouts of the control
registers (R36, 30_encoding.md R123) and the numbered registers (R30). -/

namespace Sys2Proof.Machine

/-- `LINE(s)`: in OUTPUT mode the block drives `SR[7]`, otherwise the far end's level shows (R52). -/
def State.line (s : State) : Level :=
  if s.shift.mode = .output then s.shift.sr.getLsbD 7 else s.extLevel

/-- The line role (R200). -/
inductive Role where
  | idle
  | transmitting
  | receiving
  deriving DecidableEq, Repr

/-- The line role is a function of the status flags (R200). -/
def State.role (s : State) : Role :=
  if s.status.txFromBufferActive then .transmitting
  else if s.status.rxPackageActive then .receiving
  else .idle

/-- A transfer flag is set. -/
def State.inTransfer (s : State) : Bool := s.status.txFromBufferActive || s.status.rxPackageActive

/-- The far end presents 0 while the block drives (R342). -/
def State.collides (s : State) : Bool := decide (s.shift.mode = .output) && !s.extLevel

/-- The machine is quiescent after a fault or a refusal (R341, R344). -/
def State.quiescent (s : State) : Bool := !s.faults.isEmpty || s.refused

/-- `FLAG_h`, the pending flag of a handler (R345). -/
def State.pending (s : State) : Irq → Bool
  | .edge => s.edge.flag
  | .timerOvf => s.timer.ovfFlag
  | .srOvf => s.shift.ovfFlag

/-- `IE_h`, the enable of a handler (R345). -/
def State.interruptEnable (s : State) : Irq → Bool
  | .edge => s.edge.ie
  | .timerOvf => s.timer.ovfIe
  | .srOvf => s.shift.ovfIe

/-- A handler is enabled when `GIE = 1`, `IE_h = 1` and `FLAG_h = 1` (R345). -/
def State.handlerEnabled (s : State) (h : Irq) : Bool := s.gie && s.interruptEnable h && s.pending h

/-- The priority order, EDGE > TIMER_OVF > SR_OVF: the handlers of higher priority than `h` (R346). -/
def Irq.higher : Irq → List Irq
  | .edge => []
  | .timerOvf => [.edge]
  | .srOvf => [.edge, .timerOvf]

/-- The controller may take an enabled handler only if no enabled handler of higher priority exists (R346). -/
def State.handlerTakeable (s : State) (h : Irq) : Bool :=
  s.handlerEnabled h && h.higher.all fun k => !s.handlerEnabled k

/-- The command whose rule a handler's step performs (R345, R347). -/
def Irq.instr : Irq → Instr
  | .edge => .isrEdge
  | .timerOvf => .isrTimerOvf
  | .srOvf => .isrSrOvf

/-- A byte from its bits 0 to 4, bits 7:5 reading 0. -/
def packByte (b0 b1 b2 b3 b4 : Bool) : Byte :=
  (0#3 ++ BitVec.ofBool b4 ++ BitVec.ofBool b3 ++ BitVec.ofBool b2 ++ BitVec.ofBool b1 ++ BitVec.ofBool b0 : BitVec 8)

/-- The `STATUS` byte (R36). -/
def State.statusByte (s : State) : Byte :=
  packByte s.status.txFromBufferActive s.status.txHalfFrameActive s.status.rxPackageActive s.status.rxOverflow false

/-- The `TCTL` byte (R123). -/
def State.tctlByte (s : State) : Byte := packByte s.timer.run s.timer.ovfIe s.timer.ovfFlag false false

/-- The `SRCTL` byte (R123). -/
def State.srctlByte (s : State) : Byte :=
  packByte ((modeBits s.shift.mode).getLsbD 0) ((modeBits s.shift.mode).getLsbD 1) (clkBit s.shift.clk)
    s.shift.ovfIe s.shift.ovfFlag

/-- The `EDGECTL` byte (R123). -/
def State.edgectlByte (s : State) : Byte := packByte s.edge.ie s.edge.flag s.edge.lastLevel false false

/-- The numbered registers 0x00 to 0x0D of R30, each as a byte; no other number names a register. The numbers "only
index the model's state record" (20_memory.md R86): no command reads a register by number (log 20). -/
def State.registerByte (s : State) (n : Nat) : Option Byte :=
  match n with
  | 0x00 => some s.statusByte
  | 0x01 => some s.inflight
  | 0x02 => some s.tx.head
  | 0x03 => some s.tx.tail
  | 0x04 => some s.rx.head
  | 0x05 => some s.rx.tail
  | 0x06 => some s.timer.tcnt
  | 0x07 => some s.tctlByte
  | 0x08 => some s.shift.sr
  | 0x09 => some (0#4 ++ s.shift.cnt : BitVec 8)
  | 0x0A => some s.srctlByte
  | 0x0B => some s.edgectlByte
  | 0x0C => some (BitVec.zeroExtend 8 (BitVec.ofBool s.extLevel))
  | 0x0D => some (BitVec.zeroExtend 8 (BitVec.ofBool s.gie))
  | _ => none

end Sys2Proof.Machine
end

