-- ==== Sys2Proof/Machine/Ops.lean ====
section
/-! DEFINITION. The shared operations: storage (20_memory.md R83), `settle` (43_line_arbiter.md R205), raising a fault
and refusing (60_exceptions.md R341, R344), the end of a step, interrupt entry (R348), and a command's result. -/

namespace Sys2Proof.Machine

/-! ### Storage -/

namespace Memory

/-- The byte of a slot, if it has been written. -/
def read? : Memory → Nat → Option Byte
  | [], _ => none
  | (b, w) :: m, a => if a = b then some w else read? m a

/-- Writes a slot, keeping the addresses strictly rising. -/
def write : Memory → Nat → Byte → Memory
  | [], a, v => [(a, v)]
  | (b, w) :: m, a, v =>
    if a < b then (a, v) :: (b, w) :: m
    else if a = b then (a, v) :: m
    else (b, w) :: write m a v

/-- Every address of `m` is at least `lo`, and the addresses strictly rise. -/
def risingFrom : Nat → Memory → Bool
  | _, [] => true
  | lo, (b, _) :: m => decide (lo ≤ b) && risingFrom (b + 1) m

/-- The canonical form: strictly rising addresses. An unlisted slot has no value, so no entry can equal one. -/
def wf (m : Memory) : Bool := risingFrom 0 m

end Memory

/-- The ring `S` selects. -/
def State.ring (s : State) : RingSel → RingBuffer
  | .tx => s.tx
  | .rx => s.rx

/-- Puts back the ring `S` selects. -/
def State.setRing (s : State) (r : RingSel) (b : RingBuffer) : State :=
  match r with
  | .tx => { s with tx := b }
  | .rx => { s with rx := b }

/-- What slot `i` of a ring holds: the byte last written there, or, where none has been written since launch or the
last `RESET`, a free value, the same at every read until the next `RESET` (R39, R40, R65; log 5). -/
def State.slot (s : State) (r : RingSel) (i : Byte) : Byte :=
  (Memory.read? (s.ring r).buf i.toNat).getD (Config.resetSlot s.draws r i.toNat)

/-- `MemRead(buf, i, 1)`: requires 0 <= i < N, no side effect; the guard raises `F_INDEX` (R83). -/
def memRead (r : RingSel) (i : Byte) (s : State) : Except FaultCode Byte :=
  if i.toNat < s.cfg.capacity r then .ok (s.slot r i) else .error .index

/-- `MemWrite(buf, i, 1, v)`: buf[i] <- v and nothing else; the guard raises `F_INDEX` (R83). -/
def memWrite (r : RingSel) (i v : Byte) (s : State) : Except FaultCode State :=
  if i.toNat < s.cfg.capacity r then
    .ok (s.setRing r { s.ring r with buf := Memory.write (s.ring r).buf i.toNat v })
  else .error .index

/-! ### Faults, refusals and the end of a step -/

/-- The number of a fault code (R341). -/
def FaultCode.number : FaultCode → Nat
  | .collision => 1
  | .flushDuringTransfer => 2
  | .initDuringTransfer => 3
  | .spuriousSrOvf => 4
  | .edgeInTransfer => 5
  | .popEmpty => 6
  | .index => 7

/-- Adds a code to a set of codes, kept as a list with strictly rising numbers. -/
def insertCode (c : FaultCode) : List FaultCode → List FaultCode
  | [] => [c]
  | d :: ds =>
    if c.number < d.number then c :: d :: ds
    else if c.number = d.number then d :: ds
    else d :: insertCode c ds

/-- The state after `raise Fault(c)`: the code joins `FAULTS` (R60, R341). -/
def State.recordFault (s : State) (c : FaultCode) : State := { s with faults := insertCode c s.faults }

/-- TAKING A FAULT, the one shared operation: "`raise Fault(F)` adds F to `FAULTS`", and the machine has no further
step (R341). The argument is the state whose writes are kept. -/
def raiseFault (c : FaultCode) (s : State) : Outcome := .fault (.raised c (s.recordFault c))

/-- A refusal: "A refused step makes no change except `REFUSED <- 1`", and the machine has no further step (R344). -/
def refuse (reason : RefusalReason) (s : State) : Outcome :=
  .refused (.refusedStep reason { s with refused := true })

/-- The edge detector's part of `settle`: a level change latches `EDGE_FLAG`, whatever `EDGE_IE` holds (R205). -/
def State.settleEdge (s : State) : State :=
  { s with edge := { s.edge with
      flag := s.edge.flag || (s.line != s.edge.lastLevel)
      lastLevel := s.line } }

/-- `settle(s)`, applied at the end of every step of every agent (R205). `F_COLLISION` keeps the step's writes (R341). -/
def settle (s : State) : Outcome :=
  if s.settleEdge.collides then raiseFault .collision s.settleEdge else .next s.settleEdge

/-- The end of a step taken in state `s` whose body made `body`. "A fault raised in a step's body discards the step's
other writes, and `settle` does not run" (R341). -/
def finish (s : State) (body : Except FaultCode State) : Outcome :=
  match body with
  | .ok t => settle t
  | .error c => raiseFault c s

/-! ### Interrupt entry and results -/

/-- TAKING A HANDLER: entry clears `FLAG_h`; nothing is saved, `GIE`, `MAINPC` and `RET` are not written (R348). The
return restores nothing: it is the end of the atomic step, `finish`. -/
def State.enterHandler (s : State) : Irq → State
  | .edge => { s with edge := { s.edge with flag := false } }
  | .timerOvf => { s with timer := { s.timer with ovfFlag := false } }
  | .srOvf => { s with shift := { s.shift with ovfFlag := false } }

/-- `return v`: `RET <- v; MAINPC <- READY` (00_scope.md R15). -/
def State.complete (s : State) (v : Ret) : State := { s with ret := v, mainPc := .ready }

/-- In the component harness a primitive's result is written to `RET` (D32). -/
def State.deliver (s : State) (v : Ret) : State := { s with ret := v }

end Sys2Proof.Machine
end

