-- ==== Sys2Proof/Machine/BitClock.lean ====
section
/-! DEFINITION. The bit-clock generator's primitives (45_bit_clock.md R271 to R274) and the commands of class 0x4. -/

namespace Sys2Proof.Machine

/-- `TIMER_WRITE v`: sets the count; never a tick (R271). -/
def timerWrite (v : Byte) (s : State) : State := { s with timer := { s.timer with tcnt := v } }

/-- `TIMER_ADD v`: `TCNT <- (TCNT + v) mod 256`, the carry discarded; never a tick (R272). -/
def timerAdd (v : Byte) (s : State) : State := { s with timer := { s.timer with tcnt := s.timer.tcnt + v } }

/-- `TIMER_START` (R273). The prescaler phase it restarts is no field (R64): the next `TIME_STEP` is one full
prescaled period later. -/
def timerStart (s : State) : State :=
  { s with timer := { s.timer with run := true, ovfIe := true, ovfFlag := false } }

/-- `TIMER_STOP` (R274). -/
def timerStop (s : State) : State :=
  { s with timer := { s.timer with run := false, ovfIe := false, ovfFlag := false } }

/-- `TIMER_WRITE` as a command (R271). -/
def execTimerWrite (v : Byte) (s : State) : Outcome := finish s (.ok (timerWrite v s))

/-- `TIMER_ADD` as a command (R272). -/
def execTimerAdd (v : Byte) (s : State) : Outcome := finish s (.ok (timerAdd v s))

/-- `TIMER_START` as a command (R273). -/
def execTimerStart (s : State) : Outcome := finish s (.ok (timerStart s))

/-- `TIMER_STOP` as a command (R274). -/
def execTimerStop (s : State) : Outcome := finish s (.ok (timerStop s))

end Sys2Proof.Machine
end

