-- ==== Sys2Proof/Machine/ShiftRegister.lean ====
section
/-! DEFINITION. The shift-register peripheral's primitives and tick (44_transport.md R231 to R238) and the commands
of class 0x3. -/

namespace Sys2Proof.Machine

/-- `SR_CONFIGURE mode, clk`, for a clock source that is not refused (R232). -/
def srConfigure (mode : SrMode) (clk : ClkSource) (s : State) : State :=
  { s with shift := { s.shift with mode := mode, clk := clk } }

/-- `SR_SET_SEED n` (R233). -/
def srSetSeed (n : Nibble) (s : State) : State := { s with shift := { s.shift with cnt := n } }

/-- `SR_WRITE_DATA v` (R235). -/
def srWriteData (v : Byte) (s : State) : State := { s with shift := { s.shift with sr := v } }

/-- `SR_ENABLE_OVF_IRQ e` (R237). -/
def srEnableOvfIrq (e : Bool) (s : State) : State := { s with shift := { s.shift with ovfIe := e } }

/-- `SR_CLEAR_FLAG` (R238). -/
def srClearFlag (s : State) : State := { s with shift := { s.shift with ovfFlag := false } }

/-- The peripheral's part of a bit-clock tick (R236): while it is not OFF and the timer clocks it, the register
shifts one place toward bit 7 taking the line's level before the shift into bit 0, and the counter counts, its
wrap from 15 to 0 setting `SR_OVF_FLAG`. -/
def shiftTick (s : State) : State :=
  if s.shift.mode ≠ .off ∧ s.shift.clk = .timerOvf then
    { s with shift := { s.shift with
        sr := (s.shift.sr <<< 1) ||| BitVec.zeroExtend 8 (BitVec.ofBool s.line)
        cnt := if s.shift.cnt = 15 then 0 else s.shift.cnt + 1
        ovfFlag := if s.shift.cnt = 15 then true else s.shift.ovfFlag } }
  else s

/-- `SR_CONFIGURE` as a command. CLK = TOGGLE is refused (R231); the reserved mode, which no word decodes to, is a
reserved encoding (R122). -/
def execSrConfigure (mode : SrMode) (clk : ClkSource) (s : State) : Outcome :=
  if mode = .reserved then refuse .reservedEncoding s
  else if clk = .toggle then refuse .unmodelledClockSource s
  else finish s (.ok (srConfigure mode clk s))

/-- `SR_SET_SEED` as a command (R233). -/
def execSrSetSeed (n : Nibble) (s : State) : Outcome := finish s (.ok (srSetSeed n s))

/-- `SR_READ_DATA` as a command: the result goes to `RET` (R234, D32). -/
def execSrReadData (s : State) : Outcome := finish s (.ok (s.deliver (.byte s.shift.sr)))

/-- `SR_WRITE_DATA` as a command (R235). -/
def execSrWriteData (v : Byte) (s : State) : Outcome := finish s (.ok (srWriteData v s))

/-- `SR_ENABLE_OVF_IRQ` as a command (R237). -/
def execSrEnableOvfIrq (e : Bool) (s : State) : Outcome := finish s (.ok (srEnableOvfIrq e s))

/-- `SR_CLEAR_FLAG` as a command (R238). -/
def execSrClearFlag (s : State) : Outcome := finish s (.ok (srClearFlag s))

end Sys2Proof.Machine
end

