-- ==== Sys2Proof/Machine/Arbiter.lean ====
section
/-! DEFINITION. The edge detector's primitives (43_line_arbiter.md R202 to R204), the arbiter's procedures (R210,
R211, R216) and the commands of class 0x5. -/

namespace Sys2Proof.Machine

/-- `EDGE_ARM`: `EDGE_FLAG <- 0; LAST_LEVEL <- LINE(s); EDGE_IE <- 1` (R202). -/
def edgeArm (s : State) : State :=
  { s with edge := { ie := true, flag := false, lastLevel := s.line } }

/-- `EDGE_DISARM`: `EDGE_IE <- 0; EDGE_FLAG <- 0` (R203). -/
def edgeDisarm (s : State) : State := { s with edge := { s.edge with ie := false, flag := false } }

/-- `START_TX`'s peripheral part, in the order of R210. -/
def startTxPeripherals (s : State) : State :=
  edgeDisarm (srEnableOvfIrq true (srClearFlag (srSetSeed seedPrime (srConfigure .output .timerOvf
    (srWriteData primingValue (timerStart (timerWrite s.cfg.txStart s)))))))

/-- `START_TX`, the Idle -> Transmitting reconfiguration (R210). -/
def startTx (s : State) : State :=
  { startTxPeripherals s with status :=
      { s.status with txHalfFrameActive := false, txFromBufferActive := true } }

/-- `RELEASE_AND_ARM`, the return to Idle, armed after the release (R211). It writes no status flag. -/
def releaseAndArm (s : State) : State :=
  edgeArm (srClearFlag (srEnableOvfIrq false (srConfigure .off .timerOvf (timerStop s))))

/-- `START_RX`'s peripheral part, in the order of R216. -/
def startRxPeripherals (s : State) : State :=
  edgeDisarm (srEnableOvfIrq true (srClearFlag (srSetSeed seedRx (srConfigure .input .timerOvf
    (timerStart (timerWrite s.cfg.reloadInitial s))))))

/-- `START_RX`, the Idle -> Receiving reconfiguration (R216). -/
def startRx (s : State) : State :=
  { startRxPeripherals s with status := { s.status with rxPackageActive := true } }

/-- `EDGE_ARM` as a command (R202). -/
def execEdgeArm (s : State) : Outcome := finish s (.ok (edgeArm s))

/-- `EDGE_DISARM` as a command (R203). -/
def execEdgeDisarm (s : State) : Outcome := finish s (.ok (edgeDisarm s))

/-- `LINE_READ` as a command: the result goes to `RET` (R204, D32), a level as a bool (DESIGN CHOICE, log 8: R204 gives 0 or 1,
and 10_state.md R59 does not say which kind of result that is). -/
def execLineRead (s : State) : Outcome := finish s (.ok (s.deliver (.bool s.line)))

end Sys2Proof.Machine
end

