-- ==== Sys2Proof/Machine/RingBuffers.lean ====
section
/-! DEFINITION. The ring buffers (41_ring_buffers.md): the primitives, and the commands of class 0x1 that perform one
of them alone (in the component harness, with the result in `RET`). -/

namespace Sys2Proof.Machine

/-- `(i + 1) & MASK` (R160, R163). -/
def State.nextIndex (s : State) (r : RingSel) (i : Byte) : Byte := (i + 1) &&& s.cfg.mask r

/-- `RB_IS_EMPTY S` (R166). -/
def State.isEmpty (s : State) (r : RingSel) : Bool := (s.ring r).head == (s.ring r).tail

/-- A push would find no room: `(HEAD + 1) & MASK == TAIL` (R160). -/
def State.isFull (s : State) (r : RingSel) : Bool := s.nextIndex r (s.ring r).head == (s.ring r).tail

/-- `RB_PUSH S, v`: slot first, then publish; false and no change when full (R160). -/
def rbPush (r : RingSel) (v : Byte) (s : State) : Except FaultCode (Bool × State) :=
  if s.isFull r then .ok (false, s)
  else
    match memWrite r (s.nextIndex r (s.ring r).head) v s with
    | .error c => .error c
    | .ok t => .ok (true, t.setRing r { t.ring r with head := s.nextIndex r (s.ring r).head })

/-- `RB_POP S`: the oldest byte; `F_POP_EMPTY` on an empty ring (R163). -/
def rbPop (r : RingSel) (s : State) : Except FaultCode (Byte × State) :=
  if s.isEmpty r then .error .popEmpty
  else
    match memRead r (s.nextIndex r (s.ring r).tail) s with
    | .error c => .error c
    | .ok v => .ok (v, s.setRing r { s.ring r with tail := s.nextIndex r (s.ring r).tail })

/-- `RB_FLUSH S`: both indices 0, slots unchanged (R169). -/
def rbFlush (r : RingSel) (s : State) : State := s.setRing r { s.ring r with head := 0, tail := 0 }

/-- The occupancy, `(HEAD - TAIL) mod N` (R41): N divides 256 for every legal capacity, so `& MASK` is that residue. -/
def State.occupancy (s : State) (r : RingSel) : Nat :=
  (((s.ring r).head - (s.ring r).tail) &&& s.cfg.mask r).toNat

/-- The held bytes, oldest first: `BUF[(TAIL+1) & MASK], ..., BUF[HEAD]` (R41). -/
def State.ringContents (s : State) (r : RingSel) : List Byte :=
  (List.range (s.occupancy r)).map fun k =>
    s.slot r (((s.ring r).tail + 1 + BitVec.ofNat 8 k) &&& s.cfg.mask r)

/-- A push as a command of its own: its result goes to `RET`. -/
def pushBody (r : RingSel) (v : Byte) (s : State) : Except FaultCode State :=
  match rbPush r v s with
  | .error c => .error c
  | .ok (done, t) => .ok (t.deliver (.bool done))

/-- A pop as a command of its own: its result goes to `RET`. -/
def popBody (r : RingSel) (s : State) : Except FaultCode State :=
  match rbPop r s with
  | .error c => .error c
  | .ok (v, t) => .ok (t.deliver (.byte v))

/-- `RB_PUSH TX, v` (R160). -/
def execRbPushTx (v : Byte) (s : State) : Outcome := finish s (pushBody .tx v s)

/-- `RB_PUSH RX, v` (R160). -/
def execRbPushRx (v : Byte) (s : State) : Outcome := finish s (pushBody .rx v s)

/-- `RB_POP TX` (R163). -/
def execRbPopTx (s : State) : Outcome := finish s (popBody .tx s)

/-- `RB_POP RX` (R163). -/
def execRbPopRx (s : State) : Outcome := finish s (popBody .rx s)

/-- `RB_IS_EMPTY TX` (R166). -/
def execRbIsEmptyTx (s : State) : Outcome := finish s (.ok (s.deliver (.bool (s.isEmpty .tx))))

/-- `RB_IS_EMPTY RX` (R166). -/
def execRbIsEmptyRx (s : State) : Outcome := finish s (.ok (s.deliver (.bool (s.isEmpty .rx))))

/-- `RB_FLUSH TX` (R169). -/
def execRbFlushTx (s : State) : Outcome := finish s (.ok (rbFlush .tx s))

/-- `RB_FLUSH RX` (R169). -/
def execRbFlushRx (s : State) : Outcome := finish s (.ok (rbFlush .rx s))

end Sys2Proof.Machine
end

