-- ==== Sys2Proof/Machine/Api.lean ====
section
/-! DEFINITION. The host commands (class 0x0, 46_public_api.md R302 to R313) and the main flow's micro-steps (R301,
R304 to R308). -/

namespace Sys2Proof.Machine

/-- `INIT_RECEIVER`'s step (R302). -/
def initReceiverBody (s : State) : Except FaultCode State :=
  if s.inTransfer then .error .initDuringTransfer
  else if s.edge.ie then .ok (s.complete .none)
  else .ok ((releaseAndArm s).complete .none)

/-- `FLUSH_BUFFERS`' step (R310). -/
def flushBuffersBody (s : State) : Except FaultCode State :=
  if s.inTransfer then .error .flushDuringTransfer
  else .ok ((rbFlush .rx (rbFlush .tx s)).complete .none)

/-- `INIT_RECEIVER` (R302). -/
def execInitReceiver (s : State) : Outcome := finish s (initReceiverBody s)

/-- `TRANSMIT_BYTE b`, the acceptance step: `v <- REVERSE_BITS(b); MAINPC <- TB_SPACE(v)` (R303). -/
def execTransmitByte (b : Byte) (s : State) : Outcome :=
  finish s (.ok { s with mainPc := .tbSpace (reverseBits b) })

/-- `RECEIVE_BYTE`, the acceptance step: `MAINPC <- RB_WAIT` (R307). -/
def execReceiveByte (s : State) : Outcome := finish s (.ok { s with mainPc := .rbWait })

/-- `DATA_AVAILABLE` (R309). -/
def execDataAvailable (s : State) : Outcome := finish s (.ok (s.complete (.bool (!s.isEmpty .rx))))

/-- `FLUSH_BUFFERS` (R310). -/
def execFlushBuffers (s : State) : Outcome := finish s (flushBuffersBody s)

/-- `READ_RX_OVERFLOW`: the read does not clear (R311). -/
def execReadRxOverflow (s : State) : Outcome := finish s (.ok (s.complete (.bool s.status.rxOverflow)))

/-- `CLEAR_RX_OVERFLOW` (R313). -/
def execClearRxOverflow (s : State) : Outcome :=
  finish s (.ok (State.complete { s with status := { s.status with rxOverflow := false } } .none))

/-- Micro-step `TB_SPACE(v)`: push, or stay while the TX ring is full (R304). -/
def tbSpace (v : Byte) (s : State) : Except FaultCode State :=
  match rbPush .tx v s with
  | .error c => .error c
  | .ok (true, t) => .ok { t with mainPc := .tbCheck }
  | .ok (false, t) => .ok t

/-- Micro-step `TB_CHECK` (R305). -/
def tbCheck (s : State) : State :=
  if s.status.txFromBufferActive then s.complete .none else { s with mainPc := .tbWaitRx }

/-- Micro-step `TB_WAIT_RX`: stay while receiving, else check and start are one atomic step (R306). -/
def tbWaitRx (s : State) : State :=
  if s.status.rxPackageActive then s else (startTx s).complete .none

/-- Micro-step `RB_WAIT`: stay while the RX ring is empty, else dequeue and return `REVERSE_BITS(v)` (R308). -/
def rbWait (s : State) : Except FaultCode State :=
  if s.isEmpty .rx then .ok s
  else
    match rbPop .rx s with
    | .error c => .error c
    | .ok (v, t) => .ok (t.complete (.byte (reverseBits v)))

/-- The micro-step `MAINPC` names (R301). At `READY` there is none: `MAIN`'s step there is an acceptance (R300). -/
def microStepBody (s : State) : Except FaultCode State :=
  match s.mainPc with
  | .ready => .ok s
  | .tbSpace v => tbSpace v s
  | .tbCheck => .ok (tbCheck s)
  | .tbWaitRx => .ok (tbWaitRx s)
  | .rbWait => rbWait s

/-- One micro-step of `MAIN`, followed by `settle` (R301). -/
def microStep (s : State) : Outcome := finish s (microStepBody s)

end Sys2Proof.Machine
end

