-- ==== Sys2Proof/Machine/Codec.lean ====
section
/-! DEFINITION. The frame codec as a command of its own (42_frame_codec.md R190). -/

namespace Sys2Proof.Machine

/-- `REVERSE_BITS b`: a pure function; the result goes to `RET` (R190, D32). -/
def execReverseBits (b : Byte) (s : State) : Outcome := finish s (.ok (s.deliver (.byte (reverseBits b))))

end Sys2Proof.Machine
end

