-- ==== Sys2Proof/Machine/Events.lean ====
section
/-! DEFINITION. The events of `CLOCK` and `ENV` (class 0x7): `TIME_STEP` (45_bit_clock.md R276), `LINE_SET` and
`GIE_SET` (46_public_api.md R320, R321), `RESET` (70_reset_and_hazards.md R380). -/

namespace Sys2Proof.Machine

/-- One prescaled timer count passes: the count's increment from 255 to 0 is the tick, which sets `TIMER_OVF_FLAG`
and clocks the shift register (R276). -/
def countStep (s : State) : State :=
  if s.timer.run then
    if s.timer.tcnt = 255 then
      shiftTick { s with timer := { s.timer with tcnt := 0, ovfFlag := true } }
    else { s with timer := { s.timer with tcnt := s.timer.tcnt + 1 } }
  else s

/-- Every field at the value of R65's table: the unspecified ones take free values, `FAULTS`, `REFUSED`, `T` and
`EXT_LEVEL` keep theirs, and a host command in progress ends (R380). The ring slots are unwritten again, so they read as
the new draw (log 5). -/
def resetFields (s : State) : State :=
  { s with
    status :=
      { txFromBufferActive := false, txHalfFrameActive := false, rxPackageActive := false, rxOverflow := false }
    inflight := Config.resetInflight (s.draws + 1)
    tx := { head := 0, tail := 0, buf := [] }
    rx := { head := 0, tail := 0, buf := [] }
    timer := { tcnt := 0, run := false, ovfIe := false, ovfFlag := false }
    shift :=
      { sr := Config.resetSr (s.draws + 1), cnt := Config.resetCnt (s.draws + 1), mode := .off, clk := .timerOvf
        ovfIe := false, ovfFlag := false }
    edge := { ie := false, flag := false, lastLevel := s.extLevel }
    gie := false
    mainPc := .ready
    ret := .none
    draws := s.draws + 1 }

/-- `TIME_STEP` (R276). -/
def execTimeStep (s : State) : Outcome := finish s (.ok (countStep { s with time := s.time + 1 }))

/-- `LINE_SET l` (R320). -/
def execLineSet (l : Level) (s : State) : Outcome := finish s (.ok { s with extLevel := l })

/-- `GIE_SET g` (R321). -/
def execGieSet (g : Bool) (s : State) : Outcome := finish s (.ok { s with gie := g })

/-- `RESET` (R380). -/
def execReset (s : State) : Outcome := finish s (.ok (resetFields s))

end Sys2Proof.Machine
end

