-- ==== Sys2Proof/Machine/Handlers.lean ====
section
/-! DEFINITION. The three interrupt handlers (class 0x6): entry, body, `settle`, in one atomic step (60_exceptions.md
R348). A command of class 0x6 in the component harness performs the same step, enabled or not (R347). -/

namespace Sys2Proof.Machine

/-- The body of `ISR_EDGE` (43_line_arbiter.md R215). -/
def isrEdgeBody (s : State) : Except FaultCode State :=
  if s.inTransfer then .error .edgeInTransfer
  else if s.line then .ok s
  else .ok (startRx s)

/-- The body of `ISR_TIMER_OVF`: `TIMER_ADD(R_S)` (45_bit_clock.md R275). -/
def isrTimerOvfBody (s : State) : State := timerAdd s.cfg.reloadSteady s

/-- Transmit branch, second half (44_transport.md R241). -/
def loadSecondHalf (s : State) : State :=
  srSetSeed seedTx (srWriteData (halfFrame2 s.inflight)
    { s with status := { s.status with txHalfFrameActive := false } })

/-- Transmit branch, next byte: the dequeued byte is loaded as it is (R242, 90_conflicts.md C1). -/
def loadNextByte (s : State) : Except FaultCode State :=
  match rbPop .tx s with
  | .error c => .error c
  | .ok (v, t) =>
    .ok (srSetSeed seedTx (srWriteData (halfFrame1 v)
      { t with inflight := v, status := { t.status with txHalfFrameActive := true } }))

/-- Transmit branch, end (R243). -/
def endTransmission (s : State) : State :=
  releaseAndArm { s with status := { s.status with txFromBufferActive := false } }

/-- Receive branch: the captured register is stored as it is, or flagged as overflow and discarded (R244,
90_conflicts.md C2). -/
def storeReceived (s : State) : Except FaultCode State :=
  match rbPush .rx s.shift.sr { s with status := { s.status with rxPackageActive := false } } with
  | .error c => .error c
  | .ok (true, t) => .ok (releaseAndArm t)
  | .ok (false, t) => .ok (releaseAndArm { t with status := { t.status with rxOverflow := true } })

/-- The body of `ISR_SR_OVF`: its dispatch (R240). -/
def isrSrOvfBody (s : State) : Except FaultCode State :=
  if s.status.txFromBufferActive then
    if s.status.txHalfFrameActive then .ok (loadSecondHalf s)
    else if s.isEmpty .tx then .ok (endTransmission s)
    else loadNextByte s
  else if s.status.rxPackageActive then storeReceived s
  else .error .spuriousSrOvf

/-- `ISR_EDGE` (43_line_arbiter.md R215). -/
def execIsrEdge (s : State) : Outcome := finish s (isrEdgeBody (s.enterHandler .edge))

/-- `ISR_TIMER_OVF` (45_bit_clock.md R275). -/
def execIsrTimerOvf (s : State) : Outcome := finish s (.ok (isrTimerOvfBody (s.enterHandler .timerOvf)))

/-- `ISR_SR_OVF` (44_transport.md R240). -/
def execIsrSrOvf (s : State) : Outcome := finish s (isrSrOvfBody (s.enterHandler .srOvf))

end Sys2Proof.Machine
end

