-- ==== Sys2Proof/Machine/Dispatch.lean ====
section
/-! DEFINITION. The meaning of every command: the step it performs. -/

namespace Sys2Proof.Machine

def exec (i : Instr) (s : State) : Host.Outcome State Fault Refusal :=
  match i with
  | .initReceiver => Sys2Proof.Machine.execInitReceiver s
  | .transmitByte b => Sys2Proof.Machine.execTransmitByte b s
  | .receiveByte => Sys2Proof.Machine.execReceiveByte s
  | .dataAvailable => Sys2Proof.Machine.execDataAvailable s
  | .flushBuffers => Sys2Proof.Machine.execFlushBuffers s
  | .readRxOverflow => Sys2Proof.Machine.execReadRxOverflow s
  | .clearRxOverflow => Sys2Proof.Machine.execClearRxOverflow s
  | .rbPushTx v => Sys2Proof.Machine.execRbPushTx v s
  | .rbPushRx v => Sys2Proof.Machine.execRbPushRx v s
  | .rbPopTx => Sys2Proof.Machine.execRbPopTx s
  | .rbPopRx => Sys2Proof.Machine.execRbPopRx s
  | .rbIsEmptyTx => Sys2Proof.Machine.execRbIsEmptyTx s
  | .rbIsEmptyRx => Sys2Proof.Machine.execRbIsEmptyRx s
  | .rbFlushTx => Sys2Proof.Machine.execRbFlushTx s
  | .rbFlushRx => Sys2Proof.Machine.execRbFlushRx s
  | .reverseBits b => Sys2Proof.Machine.execReverseBits b s
  | .srConfigure mode clk => Sys2Proof.Machine.execSrConfigure mode clk s
  | .srSetSeed n => Sys2Proof.Machine.execSrSetSeed n s
  | .srReadData => Sys2Proof.Machine.execSrReadData s
  | .srWriteData v => Sys2Proof.Machine.execSrWriteData v s
  | .srEnableOvfIrq e => Sys2Proof.Machine.execSrEnableOvfIrq e s
  | .srClearFlag => Sys2Proof.Machine.execSrClearFlag s
  | .timerWrite v => Sys2Proof.Machine.execTimerWrite v s
  | .timerAdd v => Sys2Proof.Machine.execTimerAdd v s
  | .timerStart => Sys2Proof.Machine.execTimerStart s
  | .timerStop => Sys2Proof.Machine.execTimerStop s
  | .edgeArm => Sys2Proof.Machine.execEdgeArm s
  | .edgeDisarm => Sys2Proof.Machine.execEdgeDisarm s
  | .lineRead => Sys2Proof.Machine.execLineRead s
  | .isrEdge => Sys2Proof.Machine.execIsrEdge s
  | .isrTimerOvf => Sys2Proof.Machine.execIsrTimerOvf s
  | .isrSrOvf => Sys2Proof.Machine.execIsrSrOvf s
  | .timeStep => Sys2Proof.Machine.execTimeStep s
  | .lineSet l => Sys2Proof.Machine.execLineSet l s
  | .gieSet g => Sys2Proof.Machine.execGieSet g s
  | .reset => Sys2Proof.Machine.execReset s

end Sys2Proof.Machine
end

