-- ==== Sys2Proof/Machine/Fetch.lean ====
section
/-! DEFINITION. Which agent takes the next step and what it is: the acceptance of a word by `MAIN` (46_public_api.md
R300), the interrupt controller (60_exceptions.md R346, R347), `CLOCK` and `ENV` (00_scope.md R5). -/

namespace Sys2Proof.Machine

/-- What the next step is. -/
inductive Fetched where
  /-- The step of command `i`, taken in state `s`. -/
  | run (i : Instr) (s : State)
  /-- `MAIN`'s micro-step, taken in state `s` (R301). -/
  | micro (s : State)
  /-- A refused step, taken in state `s` (R344). -/
  | refusal (reason : RefusalReason) (s : State)
  /-- There is no step. -/
  | none (f : Fault)
  deriving DecidableEq, Repr

/-- The acceptance of a word (R300): a reserved word is refused; a class 0x1 to 0x6 word is refused unless the
component harness issued it; a class 0x7 word is refused in every run; a class 0x0 word performs its first step. -/
def acceptWord (q : Request) (s : State) : Fetched :=
  match decode q.word with
  | .invalid _ => .refusal .reservedEncoding s
  | .instr i =>
    if i.cmdClass = .api then .run i s
    else if i.cmdClass = .event then .refusal .internalCommand s
    else if q.issuer = .harness then .run i s
    else .refusal .internalCommand s

/-- `MAIN`'s step: the micro-step `MAINPC` names, or at `READY` the acceptance of the oldest waiting word. While
`MAINPC` is not `READY` a waiting word stays where it is: "the host waits" (R300). -/
def mainFetch (s : State) : Fetched :=
  if s.mainPc = .ready then
    match s.inbox with
    | [] => .none .noAgentStep
    | q :: rest => acceptWord q { s with inbox := rest }
  else .micro s

/-- An `ENV` step: `LINE_SET`, `GIE_SET` or `RESET` (R119); a reserved word is refused (R122); `ENV` issues no other
command (log 13). -/
def envFetch (w : Word) (s : State) : Fetched :=
  match decode w with
  | .invalid _ => .refusal .reservedEncoding s
  | .instr i => if i.cmdClass = .event ∧ i ≠ .timeStep then .run i s else .none .noAgentStep

/-- The step of one agent (R5). -/
def agentFetch (a : Agent) (s : State) : Fetched :=
  match a with
  | .main => mainFetch s
  | .handler h => if s.handlerTakeable h then .run h.instr s else .none .noAgentStep
  | .clock => .run .timeStep s
  | .env w => envFetch w s

/-- The next step: none in a quiescent machine (R341, R344), else that of the agent the schedule names first, and
`CLOCK`'s, which is "always enabled, in every state" (R276), where it names none (log 3). -/
def fetchNext (s : State) : Fetched :=
  if s.quiescent then .none .quiescent
  else
    match s.sched with
    | [] => .run .timeStep s
    | a :: rest => agentFetch a { s with sched := rest }

/-- A word handed to `MAIN` as its next command, with `MAIN` at `READY` and next in the schedule. -/
def handToMain (s : State) (issuer : Issuer) (w : Word) : State :=
  { s with sched := .main :: s.sched, inbox := ⟨issuer, w⟩ :: s.inbox, mainPc := .ready, faults := [], refused := false }

/-- An agent that takes the next step. -/
def scheduleFirst (s : State) (a : Agent) : State :=
  { s with sched := a :: s.sched, faults := [], refused := false }

/-- Puts a word where the next step takes its command (log 11), as its issuer of R111 would issue it: a class 0x0 word
by the host, a class 0x1 to 0x6 word by the component harness, `TIME_STEP` by `CLOCK`, the other events by `ENV`. A
word that decodes to no row is handed to `MAIN`, which refuses it. -/
def placeWord (s : State) (w : Word) : State :=
  match decode w with
  | .invalid _ => handToMain s .host w
  | .instr i =>
    if i = .timeStep then scheduleFirst s .clock
    else if i.cmdClass = .event then scheduleFirst s (.env w)
    else if i.cmdClass = .api then handToMain s .host w
    else handToMain s .harness w

end Sys2Proof.Machine
end

