-- ==== Sys2Proof/Machine/Step.lean ====
section
/-! DEFINITION. One step of the machine (00_scope.md R5): the next agent's atomic transition. -/

namespace Sys2Proof.Machine

/-- One atomic step. -/
def step (s : State) : Host.Outcome State Fault Refusal :=
  match fetchNext s with
  | .run i t => exec i t
  | .micro t => microStep t
  | .refusal reason t => refuse reason t
  | .none f => .fault f

/-- `s` with the command word `w` where the next step takes its command, so that that step runs it (log 11).
The spec knows 16-bit words only (30_encoding.md R110): that fewer bits are extended with zeros above, and that of more
bits the low 16 are placed, is the model's choice (DESIGN CHOICE, log 12). -/
def State.withFetchWord (s : State) (nbits w : Nat) : State :=
  placeWord s (BitVec.ofNat 16 (if nbits < 16 then w % 2 ^ nbits else w))

end Sys2Proof.Machine
end

