-- ==== Sys2Proof/Machine/Scripts.lean ====
section
/-! DEFINITION. The spec's own script notation: command texts (30_encoding.md R131) and macros (R132). They add no
behaviour to the machine. -/

namespace Sys2Proof.Machine

/-- `WAIT k`: k consecutive `TIME_STEP` events (R132). -/
def waitCounts (k : Nat) : List Agent := List.replicate k .clock

/-- `SEND_FRAME b`: the far end's waveform for byte b, at P counts per bit (R132). -/
def sendFrame (c : Config) (b : Byte) : List Agent :=
  (wireFrame b).flatMap fun l => .env (encode (.lineSet l)) :: waitCounts c.bitPeriod

/-- The handler the interrupt controller may take now (R346). -/
def takeableHandler (s : State) : Option Irq := [Irq.edge, Irq.timerOvf, Irq.srOvf].find? fun h => s.handlerTakeable h

/-- `RUN_ISRS`: takes every enabled pending handler in priority order until none is enabled (R132), at most `fuel`
of them. -/
def runIsrs : Nat → State → Outcome
  | 0, s => .next s
  | fuel + 1, s =>
    match takeableHandler s with
    | none => .next s
    | some h =>
      match exec h.instr s with
      | .next t => runIsrs fuel t
      | .fault f => .fault f
      | .refused r => .refused r

/-- `k` consecutive `TIME_STEP`s, stopping at the first fault. -/
def clockCounts : Nat → State → Outcome
  | 0, s => .next s
  | k + 1, s =>
    match exec .timeStep s with
    | .next t => clockCounts k t
    | .fault f => .fault f
    | .refused r => .refused r

/-! ### Command syntax (R131) -/

/-- A hexadecimal digit. -/
def hexDigit (n : Nat) : Char := "0123456789ABCDEF".toList.getD n '0'

/-- A byte operand, `0x..`. -/
def byteText (b : Byte) : String := "0x" ++ String.ofList [hexDigit (b.toNat / 16), hexDigit (b.toNat % 16)]

/-- A one-bit operand. -/
def bitText (b : Bool) : String := if b then "1" else "0"

/-- A mode operand. -/
def modeText : SrMode → String
  | .off => "OFF"
  | .output => "OUTPUT"
  | .input => "INPUT"
  | .reserved => "3"

/-- A clock source operand. -/
def clkText : ClkSource → String
  | .timerOvf => "TIMER"
  | .toggle => "TOGGLE"

/-- A command's line: the mnemonic, then its operands separated by commas (R131). -/
def commandText : Instr → String
  | .initReceiver => "INIT_RECEIVER"
  | .transmitByte b => "TRANSMIT_BYTE " ++ byteText b
  | .receiveByte => "RECEIVE_BYTE"
  | .dataAvailable => "DATA_AVAILABLE"
  | .flushBuffers => "FLUSH_BUFFERS"
  | .readRxOverflow => "READ_RX_OVERFLOW"
  | .clearRxOverflow => "CLEAR_RX_OVERFLOW"
  | .rbPushTx v => "RB_PUSH TX, " ++ byteText v
  | .rbPushRx v => "RB_PUSH RX, " ++ byteText v
  | .rbPopTx => "RB_POP TX"
  | .rbPopRx => "RB_POP RX"
  | .rbIsEmptyTx => "RB_IS_EMPTY TX"
  | .rbIsEmptyRx => "RB_IS_EMPTY RX"
  | .rbFlushTx => "RB_FLUSH TX"
  | .rbFlushRx => "RB_FLUSH RX"
  | .reverseBits b => "REVERSE_BITS " ++ byteText b
  | .srConfigure mode clk => "SR_CONFIGURE " ++ modeText mode ++ ", " ++ clkText clk
  | .srSetSeed n => "SR_SET_SEED " ++ toString n.toNat
  | .srReadData => "SR_READ_DATA"
  | .srWriteData v => "SR_WRITE_DATA " ++ byteText v
  | .srEnableOvfIrq e => "SR_ENABLE_OVF_IRQ " ++ bitText e
  | .srClearFlag => "SR_CLEAR_FLAG"
  | .timerWrite v => "TIMER_WRITE " ++ byteText v
  | .timerAdd v => "TIMER_ADD " ++ byteText v
  | .timerStart => "TIMER_START"
  | .timerStop => "TIMER_STOP"
  | .edgeArm => "EDGE_ARM"
  | .edgeDisarm => "EDGE_DISARM"
  | .lineRead => "LINE_READ"
  | .isrEdge => "ISR_EDGE"
  | .isrTimerOvf => "ISR_TIMER_OVF"
  | .isrSrOvf => "ISR_SR_OVF"
  | .timeStep => "TIME_STEP"
  | .lineSet l => "LINE_SET " ++ bitText l
  | .gieSet g => "GIE_SET " ++ bitText g
  | .reset => "RESET"

end Sys2Proof.Machine
end

