-- ==== Sys2Proof/Safety.lean ====
section
/-! DEFINITION. What a safe run is: the invariants the spec names (10_state.md R37, R41; 43_line_arbiter.md R219,
R221; 46_public_api.md R314), the premises of claims (70_reset_and_hazards.md R383, R391 to R395), the end of a run
(R389). -/

namespace Sys2Proof.Safety

open Sys2Proof.Machine

/-! ### Invariants -/

/-- A run of the integrated machine: the component harness has no word waiting for `MAIN` (30_encoding.md R122, D32). -/
def Integrated (s : State) : Prop := ∀ q ∈ s.inbox, q.issuer = .host

/-- The configuration invariants 1 to 6 of R219. -/
def ConfigurationInv (s : State) : Prop :=
  ¬ (s.status.txFromBufferActive = true ∧ s.status.rxPackageActive = true) ∧
  (s.status.txFromBufferActive = true →
    s.shift.mode = .output ∧ s.shift.clk = .timerOvf ∧ s.shift.ovfIe = true ∧ s.timer.run = true ∧
      s.timer.ovfIe = true ∧ s.edge.ie = false) ∧
  (s.status.rxPackageActive = true →
    s.shift.mode = .input ∧ s.shift.clk = .timerOvf ∧ s.shift.ovfIe = true ∧ s.timer.run = true ∧
      s.timer.ovfIe = true ∧ s.edge.ie = false) ∧
  (s.status.txFromBufferActive = false ∧ s.status.rxPackageActive = false →
    s.shift.mode = .off ∧ s.shift.ovfIe = false ∧ s.shift.ovfFlag = false ∧ s.timer.run = false ∧
      s.timer.ovfIe = false ∧ s.timer.ovfFlag = false) ∧
  (s.status.txHalfFrameActive = true → s.status.txFromBufferActive = true) ∧
  (s.edge.ie = true → s.status.txFromBufferActive = false ∧ s.status.rxPackageActive = false)

/-- The index ranges of R41, for one ring. -/
def IndicesInRange (s : State) (r : RingSel) : Prop :=
  (s.ring r).head.toNat < s.cfg.capacity r ∧ (s.ring r).tail.toNat < s.cfg.capacity r

/-- A ring's storage is in its canonical form and lists no slot outside 0..N-1 (20_memory.md R80). -/
def StorageInv (s : State) (r : RingSel) : Prop :=
  Memory.wf (s.ring r).buf = true ∧ ∀ a v, Memory.read? (s.ring r).buf a = some v → a < s.cfg.capacity r

/-- The configuration has passed R10, the indices are in range (R41) and the storage is canonical. -/
def RingInv (s : State) : Prop :=
  s.cfg.valid = true ∧ ∀ r, IndicesInRange s r ∧ StorageInv s r

/-- R314: while the TX ring is non-empty and `MAINPC` is not `TB_CHECK` or `TB_WAIT_RX`, a transmission is running. -/
def IdleTxRingInv (s : State) : Prop :=
  s.mainPc = .tbCheck ∨ s.mainPc = .tbWaitRx ∨ s.status.txFromBufferActive = true ∨ s.isEmpty .tx = true

/-- What `settle` leaves: the edge detector has seen the line, and the block does not drive against the far end (R205). -/
def Settled (s : State) : Prop := s.edge.lastLevel = s.line ∧ s.collides = false

/-! ### Premises of claims -/

/-- `LAUNCH_CLEAN`, `LINE_IDLE_AT_LAUNCH` and `CONFIG_VALID` (R383): `s` is the launch state of a valid configuration, whatever the
unspecified fields hold. -/
def LaunchPremise (s : State) : Prop :=
  s.cfg.valid = true ∧ ∃ inflight sr cnt, s = { State.launch s.cfg inflight sr cnt with inbox := s.inbox, sched := s.sched }

/-- The far end presents 1 where `SR_MODE = OUTPUT` (R394). -/
def FarEndPresentsOne (s : State) : Prop := s.shift.mode = .output → s.extLevel = true

/-- "The block may start transmitting" (R394): the role is Idle and a `TRANSMIT_BYTE` is in progress, whose `TB_WAIT_RX` step
may still perform `START_TX` (DEDUCED, log 21). -/
def MayStartTransmitting (s : State) : Prop :=
  s.inTransfer = false ∧ ((∃ v, s.mainPc = .tbSpace v) ∨ s.mainPc = .tbCheck ∨ s.mainPc = .tbWaitRx)

/-- The far end begins a frame with the next step: `ENV` takes its level from 1 to 0, the start bit (R394; DEDUCED, log 21). -/
def FarEndBeginsFrame (s : State) : Prop :=
  s.extLevel = true ∧ ∃ w rest, s.sched = .env w :: rest ∧ decode w = .instr (.lineSet false)

/-- What `FAR_END_SILENT_WHILE_TX` asks of the far end at the step next taken from `s`: it presents 1 where
`SR_MODE = OUTPUT`, "and does not begin a frame while the block may start transmitting" (R394). -/
def FarEndSilent (s : State) : Prop := FarEndPresentsOne s ∧ (MayStartTransmitting s → ¬ FarEndBeginsFrame s)

/-- `FAR_END_SILENT_WHILE_TX` over the run of `k` steps from `s` (R394): at every step of it, and in the state it ends in,
a faulted one included. -/
def FarEndSilentWhileTx : Nat → State → Prop
  | 0, s => FarEndPresentsOne s
  | k + 1, s => FarEndSilent s ∧
    match step s with
    | .next t => FarEndSilentWhileTx k t
    | .fault (.raised _ t) => FarEndPresentsOne t
    | .fault .quiescent => True
    | .fault .noAgentStep => True
    | .refused _ => True

/-- `LAT_TIMER`: the timer handler runs at most 255 - R_S counts after its tick (R391). -/
def LatTimer (c : Config) (lam : Nat) : Prop := lam ≤ 255 - c.reloadSteady.toNat

/-- `LAT_SR`: the shift-register handler runs at most P - 1 counts after its tick (R392). -/
def LatSr (c : Config) (lam : Nat) : Prop := lam ≤ c.bitPeriod - 1

/-- `LAT_EDGE`: max(0, D_ENTRY - H + 1) <= λ_E <= min(P - 1, P - H + D_ENTRY) (R395). -/
def LatEdge (c : Config) (lam : Nat) : Prop :=
  c.dEntry + 1 ≤ lam + c.halfPeriod ∧ lam ≤ c.bitPeriod - 1 ∧ lam + c.halfPeriod ≤ c.bitPeriod + c.dEntry

/-! ### Endless runs -/

/-- Agent `a` has a step in `s` that fairness speaks of (R397): `MAIN` its micro-step or the acceptance of a waiting word, a
handler that is enabled (60_exceptions.md R345), `CLOCK` always (45_bit_clock.md R276). An `ENV` step is the far end's or
the CPU's to take or leave, and no rule says that one is taken (DEDUCED, log 18). -/
def Enabled (s : State) : Agent → Prop
  | .main => s.mainPc ≠ .ready ∨ s.inbox ≠ []
  | .handler h => s.handlerEnabled h = true
  | .clock => True
  | .env _ => False

/-- An endless run (R396, R397): from `states n` the agent `agents n` takes a step that completes, and the words `arrivals n`
then join those that wait for `MAIN`. The run, and not the state, holds the schedule, which has no end. -/
def EndlessRun (states : Nat → State) (agents : Nat → Agent) (arrivals : Nat → List Request) : Prop :=
  ∀ n, ∃ t, step { states n with sched := [agents n] } = .next t ∧
    states (n + 1) = { t with inbox := t.inbox ++ arrivals n }

/-- Weak fairness: "every agent step that stays enabled is eventually taken" (R397). -/
def WeaklyFair (states : Nat → State) (agents : Nat → Agent) : Prop :=
  ∀ a n, (∀ m, n ≤ m → Enabled (states m) a) → ∃ m, n ≤ m ∧ agents m = a

/-- `FAR_END_SILENT_WHILE_TX` along an endless run (R394). -/
def FarEndSilentAlong (states : Nat → State) (agents : Nat → Agent) : Prop :=
  ∀ n, FarEndSilent { states n with sched := [agents n] }

/-- `LAT_TIMER` along an endless run: after each tick `ISR_TIMER_OVF` is taken with a latency of R391. -/
def LatTimerAlong (states : Nat → State) (agents : Nat → Agent) : Prop :=
  ∀ n, (states n).timer.ovfFlag = false → (states (n + 1)).timer.ovfFlag = true →
    ∃ m, n < m ∧ agents m = .handler .timerOvf ∧
      LatTimer (states m).cfg ((states m).time - (states (n + 1)).time)

/-- `LAT_SR` along an endless run: after each overflow `ISR_SR_OVF` is taken with a latency of R392. -/
def LatSrAlong (states : Nat → State) (agents : Nat → Agent) : Prop :=
  ∀ n, (states n).shift.ovfFlag = false → (states (n + 1)).shift.ovfFlag = true →
    ∃ m, n < m ∧ agents m = .handler .srOvf ∧ LatSr (states m).cfg ((states m).time - (states (n + 1)).time)

/-- `LAT_EDGE` along an endless run: after each falling edge seen while armed `ISR_EDGE` is taken with a latency of R395. -/
def LatEdgeAlong (states : Nat → State) (agents : Nat → Agent) : Prop :=
  ∀ n, (states n).edge.ie = true → (states n).line = true → (states (n + 1)).line = false →
    ∃ m, n < m ∧ agents m = .handler .edge ∧ LatEdge (states m).cfg ((states m).time - (states (n + 1)).time)

/-! ### Spins -/

/-- `MAIN` is in a micro-step that would stay: the TX ring is full, a reception is running, or the RX ring is empty
(46_public_api.md R304, R306, R308), and only a handler's step can change that. -/
def WaitsOnHandler (s : State) : Prop :=
  match s.mainPc with
  | .ready => False
  | .tbSpace _ => s.isFull .tx = true
  | .tbCheck => False
  | .tbWaitRx => s.status.rxPackageActive = true
  | .rbWait => s.isEmpty .rx = true

/-- The micro-step that `MAINPC` names at `n` ends: `MAINPC` is elsewhere at some later time (46_public_api.md R318). -/
def SpinEnds (states : Nat → State) (n : Nat) : Prop := ∃ m, n ≤ m ∧ (states m).mainPc ≠ (states n).mainPc

/-- From `n` on, `GIE = g` wherever `MAINPC` names the micro-step it names at `n` (46_public_api.md R318). -/
def GieWhileSpinning (g : Bool) (states : Nat → State) (n : Nat) : Prop :=
  ∀ m, n ≤ m → (states m).mainPc = (states n).mainPc → (states m).gie = g

/-- The step at `m` is a bit-clock tick: `CLOCK`'s increment of the running count from 255 to 0 (45_bit_clock.md R276). -/
def TickAt (states : Nat → State) (agents : Nat → Agent) (m : Nat) : Prop :=
  agents m = .clock ∧ (states m).timer.run = true ∧ (states m).timer.tcnt = 255

/-- The ticks among the `k` steps from `n`. -/
def ticksIn (states : Nat → State) (agents : Nat → Agent) (n : Nat) : Nat → Nat
  | 0 => 0
  | k + 1 => ticksIn states agents n k +
      if agents (n + k) = .clock ∧ (states (n + k)).timer.run = true ∧ (states (n + k)).timer.tcnt = 255 then 1 else 0

/-- What the latency premises are for: after an overflow `ISR_SR_OVF` runs "before the next tick" (R392), so no tick finds
`SR_OVF_FLAG` set. -/
def OverflowsServedInTime (states : Nat → State) (agents : Nat → Agent) : Prop :=
  ∀ m, TickAt states agents m → (states m).shift.ovfFlag = false

/-- The agent's step is a `RESET`, which ends a host command in progress (R380). -/
def IsReset (a : Agent) : Prop := ∃ w, a = .env w ∧ decode w = .instr .reset

/-! ### The end of a run -/

/-- The end of a run (R389): no further host command, `MAINPC = READY`, role Idle with an empty TX ring, no handler enabled;
and no fault recorded, for "the faulted state is never a final state" (60_exceptions.md R341). -/
def EndOfRun (s : State) : Prop :=
  s.inbox = [] ∧ s.mainPc = .ready ∧ s.role = .idle ∧ s.isEmpty .tx = true ∧ (∀ h, s.handlerEnabled h = false) ∧
    s.faults = []

/-- A safe run of k steps: no fault and no refusal on the way (R341: a faulted state refutes every claim about the run). -/
def SafeRun (k : Nat) (s t : State) : Prop := Sys2Proof.core.run k s = .next t

end Sys2Proof.Safety
end

