-- ==== Sys2Proof/Certificates/Slice0/Obligations.lean ====
section
/-! DEFINITION. The statements for the provers. Each docstring names the rules of spec/ it formalises. -/

namespace Sys2Proof.Claims

open Sys2Proof.Machine

/-! ### Frames -/

/-- The parts of the state: every field of 10_state.md R30 on its own, each ring slot on its own, the configuration, and
the model's own inputs. -/
inductive Part where
  | txFromBufferActive
  | txHalfFrameActive
  | rxPackageActive
  | rxOverflow
  | inflight
  | head (r : RingSel)
  | tail (r : RingSel)
  | slot (r : RingSel) (i : Byte)
  | tcnt
  | timerRun
  | timerOvfIe
  | timerOvfFlag
  | sr
  | cnt
  | srMode
  | srClk
  | srOvfIe
  | srOvfFlag
  | edgeIe
  | edgeFlag
  | lastLevel
  | extLevel
  | gie
  | mainPc
  | ret
  | faults
  | refused
  | time
  | cfg
  | draws
  | inbox
  | sched

/-- A part of the state holds in `t` what it holds in `s`; a slot reads as before. -/
def Unchanged (s t : State) : Part → Prop
  | .txFromBufferActive => t.status.txFromBufferActive = s.status.txFromBufferActive
  | .txHalfFrameActive => t.status.txHalfFrameActive = s.status.txHalfFrameActive
  | .rxPackageActive => t.status.rxPackageActive = s.status.rxPackageActive
  | .rxOverflow => t.status.rxOverflow = s.status.rxOverflow
  | .inflight => t.inflight = s.inflight
  | .head r => (t.ring r).head = (s.ring r).head
  | .tail r => (t.ring r).tail = (s.ring r).tail
  | .slot r i => t.slot r i = s.slot r i
  | .tcnt => t.timer.tcnt = s.timer.tcnt
  | .timerRun => t.timer.run = s.timer.run
  | .timerOvfIe => t.timer.ovfIe = s.timer.ovfIe
  | .timerOvfFlag => t.timer.ovfFlag = s.timer.ovfFlag
  | .sr => t.shift.sr = s.shift.sr
  | .cnt => t.shift.cnt = s.shift.cnt
  | .srMode => t.shift.mode = s.shift.mode
  | .srClk => t.shift.clk = s.shift.clk
  | .srOvfIe => t.shift.ovfIe = s.shift.ovfIe
  | .srOvfFlag => t.shift.ovfFlag = s.shift.ovfFlag
  | .edgeIe => t.edge.ie = s.edge.ie
  | .edgeFlag => t.edge.flag = s.edge.flag
  | .lastLevel => t.edge.lastLevel = s.edge.lastLevel
  | .extLevel => t.extLevel = s.extLevel
  | .gie => t.gie = s.gie
  | .mainPc => t.mainPc = s.mainPc
  | .ret => t.ret = s.ret
  | .faults => t.faults = s.faults
  | .refused => t.refused = s.refused
  | .time => t.time = s.time
  | .cfg => t.cfg = s.cfg
  | .draws => t.draws = s.draws
  | .inbox => t.inbox = s.inbox
  | .sched => t.sched = s.sched

/-- From `s` to `t` nothing changes but the named parts. -/
def OnlyChanges (parts : List Part) (s t : State) : Prop := ∀ p, p ∉ parts → Unchanged s t p

/-- What `settle` leaves in the edge detector after a step that does not itself write it: a level change has latched
`EDGE_FLAG`, and `LAST_LEVEL` is the level (43_line_arbiter.md R205). -/
def EdgeSettled (s t : State) : Prop :=
  t.edge.flag = (s.edge.flag || (t.line != s.edge.lastLevel)) ∧ t.edge.lastLevel = t.line

/-- A command answers a next state in which `post` holds, nothing has changed but the named parts and what `settle`
writes, and the edge detector is settled. -/
def Completes (i : Instr) (s : State) (parts : List Part) (post : State → Prop) : Prop :=
  ∃ t, exec i s = .next t ∧ post t ∧ OnlyChanges (.edgeFlag :: .lastLevel :: parts) s t ∧ EdgeSettled s t

/-- A step raises a fault and makes no other change: the code has joined `FAULTS` and every other part is as before
(60_exceptions.md R341). -/
def FaultsOnly (o : Outcome) (s : State) (c : FaultCode) : Prop :=
  ∃ t, o = .fault (.raised c t) ∧ (∀ d, d ∈ t.faults ↔ d = c ∨ d ∈ s.faults) ∧ OnlyChanges [.faults] s t

/-- A step raises `F_COLLISION` and keeps its writes (60_exceptions.md R341): the code has joined `FAULTS`, `post` holds of
what the step wrote, and nothing else has changed. -/
def CollidesAfter (o : Outcome) (s : State) (parts : List Part) (post : State → Prop) : Prop :=
  ∃ t, o = .fault (.raised .collision t) ∧ (∀ d, d ∈ t.faults ↔ d = .collision ∨ d ∈ s.faults) ∧ post t ∧
    OnlyChanges (.faults :: .edgeFlag :: .lastLevel :: parts) s t

/-- A one-byte word: the row's fixed byte above, the operand byte below (30_encoding.md R110). -/
def byteWord (high : Byte) (imm : Byte) : Word := (high ++ imm : BitVec 16)

/-- The push of ring `r` as a command. -/
def pushCommand : RingSel → Byte → Instr
  | .tx, v => .rbPushTx v
  | .rx, v => .rbPushRx v

/-- The pop of ring `r` as a command. -/
def popCommand : RingSel → Instr
  | .tx => .rbPopTx
  | .rx => .rbPopRx

/-- The emptiness test of ring `r` as a command. -/
def isEmptyCommand : RingSel → Instr
  | .tx => .rbIsEmptyTx
  | .rx => .rbIsEmptyRx

/-- The flush of ring `r` as a command. -/
def flushCommand : RingSel → Instr
  | .tx => .rbFlushTx
  | .rx => .rbFlushRx

/-- The bit `S` of a ring-buffer command, `CW[8]` (30_encoding.md R113). -/
def selectBit : RingSel → Byte
  | .tx => 0
  | .rx => 1

/-- The other ring. -/
def otherRing : RingSel → RingSel
  | .tx => .rx
  | .rx => .tx

/-- The place of a command's row in `opcode_table.json`, counting from 0. -/
def rowIndex : Instr → Nat
  | .initReceiver => 0
  | .transmitByte _ => 1
  | .receiveByte => 2
  | .dataAvailable => 3
  | .flushBuffers => 4
  | .readRxOverflow => 5
  | .clearRxOverflow => 6
  | .rbPushTx _ => 7
  | .rbPushRx _ => 8
  | .rbPopTx => 9
  | .rbPopRx => 10
  | .rbIsEmptyTx => 11
  | .rbIsEmptyRx => 12
  | .rbFlushTx => 13
  | .rbFlushRx => 14
  | .reverseBits _ => 15
  | .srConfigure _ _ => 16
  | .srSetSeed _ => 17
  | .srReadData => 18
  | .srWriteData _ => 19
  | .srEnableOvfIrq _ => 20
  | .srClearFlag => 21
  | .timerWrite _ => 22
  | .timerAdd _ => 23
  | .timerStart => 24
  | .timerStop => 25
  | .edgeArm => 26
  | .edgeDisarm => 27
  | .lineRead => 28
  | .isrEdge => 29
  | .isrTimerOvf => 30
  | .isrSrOvf => 31
  | .timeStep => 32
  | .lineSet _ => 33
  | .gieSet _ => 34
  | .reset => 35

/-- What the `TB_WAIT_RX` step that starts a transmission writes (R210, R306), and what `settle` then leaves in the edge
detector, with the line at 1. -/
def TransmissionStarted (s t : State) : Prop :=
  t.timer.tcnt = s.cfg.reloadSteady ∧ t.timer.run = true ∧ t.timer.ovfIe = true ∧ t.timer.ovfFlag = false ∧
  t.shift.sr = 0xFF ∧ t.shift.mode = .output ∧ t.shift.clk = .timerOvf ∧ t.shift.cnt.toNat = 15 ∧
  t.shift.ovfFlag = false ∧ t.shift.ovfIe = true ∧ t.edge.ie = false ∧ t.edge.flag = (true != s.edge.lastLevel) ∧
  t.edge.lastLevel = true ∧ t.line = true ∧ t.status.txHalfFrameActive = false ∧ t.status.txFromBufferActive = true ∧
  t.ret = .none ∧ t.mainPc = .ready

/-- The parts that step writes, but for `settle`'s. -/
def transmissionStartParts : List Part :=
  [.tcnt, .timerRun, .timerOvfIe, .timerOvfFlag, .sr, .cnt, .srMode, .srClk, .srOvfIe, .srOvfFlag, .edgeIe,
    .txHalfFrameActive, .txFromBufferActive, .ret, .mainPc]

/-- An outcome with the ghost time of the state it holds shifted by `n`, and nothing else changed. -/
def outcomeLater (n : Nat) : Outcome → Outcome
  | .next t => .next { t with time := t.time + n }
  | .fault (.raised c t) => .fault (.raised c { t with time := t.time + n })
  | .fault .quiescent => .fault .quiescent
  | .fault .noAgentStep => .fault .noAgentStep
  | .refused (.refusedStep r t) => .refused (.refusedStep r { t with time := t.time + n })
  | .refused (.notModelled m) => .refused (.notModelled m)

/-- The fields of R65's table that have a value there. -/
def ResetTable (t : State) : Prop :=
  t.status.txFromBufferActive = false ∧ t.status.txHalfFrameActive = false ∧ t.status.rxPackageActive = false ∧
  t.status.rxOverflow = false ∧ t.tx.head = 0 ∧ t.tx.tail = 0 ∧ t.rx.head = 0 ∧ t.rx.tail = 0 ∧ t.timer.tcnt = 0 ∧
  t.timer.run = false ∧ t.timer.ovfIe = false ∧ t.timer.ovfFlag = false ∧ t.shift.mode = .off ∧
  t.shift.clk = .timerOvf ∧ t.shift.ovfIe = false ∧ t.shift.ovfFlag = false ∧ t.edge.ie = false ∧
  t.edge.flag = false ∧ t.edge.lastLevel = t.extLevel ∧ t.gie = false ∧ t.mainPc = .ready ∧ t.ret = .none

/-! ### Ticks and waveforms -/

/-- From `s`, the next bit-clock tick comes with the n-th `TIME_STEP`: before it the count has only counted and no tick
has touched the shift register, and the n-th wraps the count and sets `TIMER_OVF_FLAG`. -/
def TickComesAfter (n : Nat) (s : State) : Prop :=
  (∀ k, k < n → ∃ t, clockCounts k s = .next t ∧ t.timer.tcnt.toNat = s.timer.tcnt.toNat + k ∧
    t.timer.ovfFlag = s.timer.ovfFlag ∧ t.shift = s.shift) ∧
  ∃ t, clockCounts n s = .next t ∧ t.timer.tcnt = 0 ∧ t.timer.ovfFlag = true

/-- One tick of the shift register with the far end at level `l`. -/
def sampleTick (s : State) (l : Level) : State := shiftTick { s with extLevel := l }

/-- One bit period of the schedule S0 of 95_test_vectors.md (every handler taken at once): P counts, the timer handler, and
where the burst ends the shift-register handler. -/
def bitPeriodBlock (c : Config) (burstEnds : Bool) : List Agent :=
  waitCounts c.bitPeriod ++ .handler .timerOvf :: (if burstEnds then [.handler .srOvf] else [])

/-- The schedule of one transmitted byte: `MAIN`'s `TB_WAIT_RX`, then eleven bit periods, whose bursts end with the 1st
(priming), the 6th and the 11th. -/
def oneByteSchedule (c : Config) : List Agent :=
  .main :: ((List.range 11).flatMap fun k => bitPeriodBlock c (k = 0 ∨ k = 5 ∨ k = 10))

/-- The level of R245's table `T` counts after `START_TX`, for one byte: two periods at 1, then the wire frame, the stop
bit's level staying. -/
def waveformLevel (period : Nat) (b : Byte) (T : Nat) : Level :=
  if T / period < 2 then true else (wireFrame b).getD (T / period - 2) true

end Sys2Proof.Claims

open Sys2Proof Sys2Proof.Machine Sys2Proof.Safety Sys2Proof.Claims

/-! ## Encoding -/

/-- Decode and encode agree: no operand bit of any command is lost (30_encoding.md R110 to R122). -/
def Obligations.DecodeOfEncodeIsIdentity : Prop :=
  ∀ i : Instr, i.wf = true → decode (encode i) = .instr i

/-- Each word has one meaning: a word that decodes to a command is that command's word, and the command is well formed
(R121). -/
def Obligations.EncodeOfDecodeIsIdentity : Prop :=
  ∀ (w : Word) (i : Instr), decode w = .instr i → i.wf = true ∧ encode i = w

/-- R121: every word decodes to exactly one row of the opcode table or to invalid. A word is valid when it matches a
row's match and mask and meets the row's stated constraint, which only `SR_CONFIGURE` has (MODE != 3). -/
def Obligations.ValidWordsAreTheTableRows : Prop :=
  ∀ w : Word,
    ((∃ i, decode w = .instr i) ↔
      (opcodeRows.any fun row => row.matchesWord w) = true ∧ ¬ (w &&& 0xFFF8 = 0x3000 ∧ w.extractLsb' 0 2 = 3)) ∧
    (∀ i, decode w = .instr i →
      ∀ n (h : n < opcodeRows.length), opcodeRows[n].matchesWord w = true ↔ n = rowIndex i)

/-- Words written out from R112 to R119, one or more of each class, decode to the commands they stand for. A sanity
statement. -/
def Obligations.WordsOfTheSpecDecode : Prop :=
  decode 0x0100 = .instr .initReceiver ∧ decode 0x0241 = .instr (.transmitByte 0x41) ∧
  decode 0x1182 = .instr (.rbPushRx 0x82) ∧ decode 0x1600 = .instr .rbFlushTx ∧
  decode 0x2041 = .instr (.reverseBits 0x41) ∧ decode 0x3002 = .instr (.srConfigure .input .timerOvf) ∧
  decode 0x310B = .instr (.srSetSeed 11) ∧ decode 0x41DD = .instr (.timerAdd 0xDD) ∧
  decode 0x5200 = .instr .lineRead ∧ decode 0x6200 = .instr .isrSrOvf ∧
  decode 0x7101 = .instr (.lineSet true) ∧ decode 0x7F00 = .instr .reset ∧
  decode 0x0101 = .invalid .mustBeZero ∧ decode 0x3003 = .invalid .reservedMode ∧
  decode 0x7E00 = .invalid .reservedOp ∧ decode 0x8000 = .invalid .reservedClass

/-! ## The step -/

/-- A step runs the decoded command (46_public_api.md R300, 00_scope.md R5, 60_exceptions.md R347). In a machine that is
not quiescent: when `MAIN` is next at `READY` and the oldest waiting word decodes to a command its issuer may hand over,
the step is that command's step, the word taken; an event word that `ENV` issues and `CLOCK`'s `TIME_STEP` likewise; a
schedule that names no agent gives `CLOCK`'s step (the model's choice, log 3). -/
def Obligations.StepRunsTheDecodedCommand : Prop :=
  ∀ (s : State) (i : Instr) (w : Word) (rest : List Agent), s.quiescent = false → decode w = .instr i →
    (∀ issuer waiting, s.sched = .main :: rest → s.mainPc = .ready → s.inbox = ⟨issuer, w⟩ :: waiting →
      (i.cmdClass = .api ∨ (issuer = .harness ∧ i.cmdClass ≠ .event)) →
      step s = exec i { s with sched := rest, inbox := waiting }) ∧
    (s.sched = .env w :: rest → i.cmdClass = .event → i ≠ .timeStep → step s = exec i { s with sched := rest }) ∧
    (s.sched = .clock :: rest → step s = exec .timeStep { s with sched := rest }) ∧
    (s.sched = [] → step s = exec .timeStep s)

/-- `withFetchWord` places a word so that the very next step runs exactly the command it decodes to (the model's
load, log 11), in a state that has the same fields otherwise: `MAINPC` is at `READY` where the word is handed to `MAIN`, and
no fault or refusal is recorded. -/
def Obligations.PlacedWordIsRunNext : Prop :=
  ∀ (s : State) (w : Word) (i : Instr), decode w = .instr i →
    decodeTableWord 16 w.toNat = some i ∧
    ∃ u, step (s.withFetchWord 16 w.toNat) = exec i u ∧
      OnlyChanges [.mainPc, .faults, .refused] s u

/-- R344: a refused step makes no change except `REFUSED <- 1`, with its reason: a reserved word; a class 0x1 to 0x6 word
from the host and a class 0x7 word handed to `MAIN` by anyone; `SR_CONFIGURE` with CLK = TOGGLE; the reserved MODE, which no
word decodes to. After it the machine is quiescent: no step follows.
That a word that decodes to no row is `RESERVED_ENCODING` whatever its class is the model's inference (DEDUCED, log 19),
and so is the refusal of the reserved mode as a term (DEDUCED, log 14). -/
def Obligations.RefusedStepsOnlySetRefused : Prop :=
  (∀ (s : State) (q : Request) (waiting : List Request) (rest : List Agent) (e : DecodeError),
    s.quiescent = false → s.sched = .main :: rest → s.mainPc = .ready → s.inbox = q :: waiting →
    decode q.word = .invalid e →
    step s = .refused (.refusedStep .reservedEncoding { s with sched := rest, inbox := waiting, refused := true })) ∧
  (∀ (s : State) (w : Word) (rest : List Agent) (e : DecodeError),
    s.quiescent = false → s.sched = .env w :: rest → decode w = .invalid e →
    step s = .refused (.refusedStep .reservedEncoding { s with sched := rest, refused := true })) ∧
  (∀ (s : State) (q : Request) (waiting : List Request) (rest : List Agent) (i : Instr),
    s.quiescent = false → s.sched = .main :: rest → s.mainPc = .ready → s.inbox = q :: waiting →
    decode q.word = .instr i → i.cmdClass = .event ∨ (i.cmdClass ≠ .api ∧ q.issuer = .host) →
    step s = .refused (.refusedStep .internalCommand { s with sched := rest, inbox := waiting, refused := true })) ∧
  (∀ (s : State) (mode : SrMode), mode ≠ .reserved →
    exec (.srConfigure mode .toggle) s = .refused (.refusedStep .unmodelledClockSource { s with refused := true })) ∧
  (∀ (s : State) (clk : ClkSource),
    exec (.srConfigure .reserved clk) s = .refused (.refusedStep .reservedEncoding { s with refused := true })) ∧
  (∀ s : State, s.refused = true → step s = .fault .quiescent)

/-- The interrupt controller (60_exceptions.md R345, R346, R347): a handler's step is taken exactly when `GIE = 1`, its
enable and its pending flag are 1 and no handler of higher priority is enabled, in the order EDGE > TIMER_OVF > SR_OVF, and
it is the step of the handler's command. -/
def Obligations.HandlerStepNeedsEnableAndPriority : Prop :=
  ∀ (s : State) (h : Irq) (rest : List Agent), s.quiescent = false → s.sched = .handler h :: rest →
    ((s.gie = true ∧
        match h with
        | .edge => s.edge.ie = true ∧ s.edge.flag = true
        | .timerOvf => s.timer.ovfIe = true ∧ s.timer.ovfFlag = true ∧ ¬ (s.edge.ie = true ∧ s.edge.flag = true)
        | .srOvf => s.shift.ovfIe = true ∧ s.shift.ovfFlag = true ∧ ¬ (s.edge.ie = true ∧ s.edge.flag = true) ∧
            ¬ (s.timer.ovfIe = true ∧ s.timer.ovfFlag = true)) →
      step s = exec h.instr { s with sched := rest }) ∧
    (s.handlerEnabled h = false ∨ (∃ k ∈ h.higher, s.handlerEnabled k = true) → step s = .fault .noAgentStep)

/-- After any fault the machine is quiescent, and a quiescent machine takes no step, whatever agent is next (R341, R344). -/
def Obligations.QuiescentMachineTakesNoStep : Prop :=
  (∀ s : State, s.faults ≠ [] ∨ s.refused = true → step s = .fault .quiescent) ∧
  (∀ (s t : State) (c : FaultCode), step s = .fault (.raised c t) → c ∈ t.faults ∧ step t = .fault .quiescent)

/-- R301: while `MAINPC` is not `READY`, `MAIN`'s only step is the micro-step it names; a word that waits for `MAIN` waits on
(46_public_api.md R300). -/
def Obligations.WaitingWordStaysWhileMainIsBusy : Prop :=
  ∀ (s : State) (rest : List Agent), s.quiescent = false → s.sched = .main :: rest → s.mainPc ≠ .ready →
    step s = microStep { s with sched := rest } ∧ ∀ t, step s = .next t → t.inbox = s.inbox ∧ t.sched = rest

/-! ## Configuration, launch and reset -/

/-- R10: a configuration that breaks a constraint of R8 or R9 is refused before the block exists, and no other is. -/
def Obligations.InvalidConfigurationIsNotBuilt : Prop :=
  ∀ (c : Config) (inflight sr : Byte) (cnt : Nibble),
    (Machine.build c inflight sr cnt = none ↔
      ¬ (0 < c.fCpu ∧ 1 ≤ c.prescaler ∧ 0 < c.baud ∧ (∃ k, 1 ≤ k ∧ k ≤ 8 ∧ c.nTx = 2 ^ k) ∧
        (∃ k, 1 ≤ k ∧ k ≤ 8 ∧ c.nRx = 2 ^ k) ∧ 2 ≤ c.fCpu / c.baud / c.prescaler ∧
        c.fCpu / c.baud / c.prescaler ≤ 256 ∧ c.dEntry < c.fCpu / c.baud / c.prescaler / 2)) ∧
    (∀ s, Machine.build c inflight sr cnt = some s → s = State.launch c inflight sr cnt)

/-- R9: the derived constants, for every configuration that passes R10. -/
def Obligations.DerivedConstantsAreTheFormulas : Prop :=
  ∀ c : Config, c.valid = true →
    c.bitPeriod = (c.fCpu / c.baud) / c.prescaler ∧ 2 ≤ c.bitPeriod ∧ c.bitPeriod ≤ 256 ∧
    c.halfPeriod = c.bitPeriod / 2 ∧
    (c.reloadSteady.toNat : Int) = (256 - (c.bitPeriod : Int) + c.rAdj) % 256 ∧
    (c.reloadInitial.toNat : Int) = 256 - (c.halfPeriod : Int) + c.dEntry ∧
    c.txStart = c.reloadSteady ∧
    seedTx.toNat = 16 - 5 ∧ seedRx.toNat = 16 - 9 ∧ seedPrime.toNat = 16 - 1 ∧
    (c.mask .tx).toNat = c.nTx - 1 ∧ (c.mask .rx).toNat = c.nRx - 1

/-- `RESET` in every state (70_reset_and_hazards.md R380, 10_state.md R65): every field at its reset value, whatever the
unspecified ones are; `FAULTS`, `REFUSED`, `T`, `EXT_LEVEL` and the configuration keep theirs; a host command in progress
ends. The same table holds at power-on, with `FAULTS` empty, `REFUSED = 0`, `T = 0` and `EXT_LEVEL = 1`. -/
def Obligations.ResetSetsTheResetTable : Prop :=
  (∀ s : State, ∃ t, exec .reset s = .next t ∧ ResetTable t ∧ t.faults = s.faults ∧ t.refused = s.refused ∧
    t.time = s.time ∧ t.extLevel = s.extLevel ∧ t.cfg = s.cfg ∧ t.inbox = s.inbox ∧ t.sched = s.sched) ∧
  (∀ c inflight sr cnt, ResetTable (State.launch c inflight sr cnt) ∧ (State.launch c inflight sr cnt).faults = [] ∧
    (State.launch c inflight sr cnt).refused = false ∧ (State.launch c inflight sr cnt).time = 0 ∧
    (State.launch c inflight sr cnt).extLevel = true)

/-- `RESET` forgets: two states that differ in anything but what `RESET` keeps (R380) and the model's draw counter and
inputs go to the same state. -/
def Obligations.ResetForgetsWhatItDoesNotKeep : Prop :=
  ∀ s u : State, s.cfg = u.cfg → s.extLevel = u.extLevel → s.faults = u.faults → s.refused = u.refused →
    s.time = u.time → s.draws = u.draws → s.inbox = u.inbox → s.sched = u.sched → exec .reset s = exec .reset u

/-! ## Ring buffers -/

/-- R160, `RB_PUSH S, v`, for both rings: full (the next head is the tail), the result is false and no slot or index
changes; otherwise the slot at the next head is written, the head moves there and the result is true. Nothing else
changes.
That a command of the component harness moves no `MAINPC` is the model's choice (DESIGN CHOICE, log 8). -/
def Obligations.PushWritesTheNextSlotOrFails : Prop :=
  ∀ (r : RingSel) (v : Byte), decode (byteWord (0x10 + selectBit r) v) = .instr (pushCommand r v) ∧
    ∀ s : State, s.cfg.valid = true → s.collides = false →
      let tmp := ((s.ring r).head + 1) &&& s.cfg.mask r
      (tmp = (s.ring r).tail → Completes (pushCommand r v) s [.ret] fun t => t.ret = .bool false) ∧
      (tmp ≠ (s.ring r).tail → Completes (pushCommand r v) s [.ret, .head r, .slot r tmp] fun t =>
        t.ret = .bool true ∧ (t.ring r).head = tmp ∧ t.slot r tmp = v)

/-- R163, `RB_POP S`, for both rings: an empty ring raises `F_POP_EMPTY` and nothing else changes; otherwise the result is
the byte at the next tail, and the tail moves there.
That a command of the component harness moves no `MAINPC` is the model's choice (DESIGN CHOICE, log 8). -/
def Obligations.PopReturnsTheOldestSlotOrFaults : Prop :=
  ∀ r : RingSel, decode (byteWord (0x12 + selectBit r) 0) = .instr (popCommand r) ∧
    ∀ s : State, s.cfg.valid = true →
      let tmp := ((s.ring r).tail + 1) &&& s.cfg.mask r
      ((s.ring r).head = (s.ring r).tail → FaultsOnly (exec (popCommand r) s) s .popEmpty) ∧
      ((s.ring r).head ≠ (s.ring r).tail → s.collides = false →
        Completes (popCommand r) s [.ret, .tail r] fun t => t.ret = .byte (s.slot r tmp) ∧ (t.ring r).tail = tmp)

/-- R166 and R169, `RB_IS_EMPTY S` and `RB_FLUSH S`, for both rings.
That a command of the component harness without a result leaves `RET` as it was and moves no `MAINPC` is the model's
choice (DESIGN CHOICE, log 8). -/
def Obligations.EmptinessTestAndFlush : Prop :=
  ∀ r : RingSel,
    decode (byteWord (0x14 + selectBit r) 0) = .instr (isEmptyCommand r) ∧
    decode (byteWord (0x16 + selectBit r) 0) = .instr (flushCommand r) ∧
    ∀ s : State, s.collides = false →
      (Completes (isEmptyCommand r) s [.ret] fun t => t.ret = .bool (decide ((s.ring r).head = (s.ring r).tail))) ∧
      (Completes (flushCommand r) s [.head r, .tail r] fun t => (t.ring r).head = 0 ∧ (t.ring r).tail = 0)

/-- R171, with R170's capacity: each ring refines a FIFO queue of at most N - 1 bytes. Where the ring invariants hold, a
push appends its byte when fewer than N - 1 bytes are held and otherwise leaves the queue alone; a pop removes and
returns the oldest byte; a flush empties the queue; none of them touches the other ring's queue. -/
def Obligations.RingsRefineBoundedFifoQueues : Prop :=
  ∀ (r : RingSel) (s : State), RingInv s → s.collides = false →
    (s.ringContents r).length ≤ s.cfg.capacity r - 1 ∧
    (∀ v : Byte, ∃ t, exec (pushCommand r v) s = .next t ∧
      t.ringContents (otherRing r) = s.ringContents (otherRing r) ∧
      ((s.ringContents r).length < s.cfg.capacity r - 1 →
        t.ret = .bool true ∧ t.ringContents r = s.ringContents r ++ [v]) ∧
      ((s.ringContents r).length = s.cfg.capacity r - 1 →
        t.ret = .bool false ∧ t.ringContents r = s.ringContents r)) ∧
    (∀ v queue, s.ringContents r = v :: queue → ∃ t, exec (popCommand r) s = .next t ∧ t.ret = .byte v ∧
      t.ringContents r = queue ∧ t.ringContents (otherRing r) = s.ringContents (otherRing r)) ∧
    (∃ t, exec (flushCommand r) s = .next t ∧ t.ringContents r = [] ∧
      t.ringContents (otherRing r) = s.ringContents (otherRing r))

/-- R41 in every step: the indices stay in range and the storage stays canonical, whatever agent moves. -/
def Obligations.EveryStepKeepsTheRingInvariants : Prop :=
  ∀ s t : State, RingInv s → step s = .next t → RingInv t

/-! ## Codec -/

/-- R190, `REVERSE_BITS b`: result bit i is bit 7 - i of b, the masked-shift form gives the same byte, and nothing but the
result is written.
That a command of the component harness moves no `MAINPC` is the model's choice (DESIGN CHOICE, log 8). -/
def Obligations.ReverseBitsReversesTheBits : Prop :=
  ∀ b : Byte, decode (byteWord 0x20 b) = .instr (.reverseBits b) ∧
    ∀ s : State, s.collides = false → Completes (.reverseBits b) s [.ret] fun t =>
      ∃ r : Byte, t.ret = .byte r ∧ (∀ i, i < 8 → r.getLsbD i = b.getLsbD (7 - i)) ∧ reverseBitsMasked b = r

/-- R191: reversing the result of `REVERSE_BITS b` gives b back. -/
def Obligations.ReversingTwiceRestoresTheByte : Prop :=
  ∀ (b : Byte) (s : State), s.collides = false →
    ∃ (r : Byte) (t u : State), exec (.reverseBits b) s = .next t ∧ t.ret = .byte r ∧
      exec (.reverseBits r) t = .next u ∧ u.ret = .byte b

/-! ## Shift register -/

/-- R232, `SR_CONFIGURE mode, clk`: sets the mode and the clock source, and the line may change with the mode; a mode that
drives against a far end at 0 collides, the writes kept (43_line_arbiter.md R205, 60_exceptions.md R341); CLK = TOGGLE is
refused (R231).
That a command of the component harness without a result leaves `RET` as it was and moves no `MAINPC` is the model's
choice (DESIGN CHOICE, log 8). -/
def Obligations.SrConfigureSetsModeAndClock : Prop :=
  decode 0x3000 = .instr (.srConfigure .off .timerOvf) ∧ decode 0x3001 = .instr (.srConfigure .output .timerOvf) ∧
  decode 0x3002 = .instr (.srConfigure .input .timerOvf) ∧ decode 0x3004 = .instr (.srConfigure .off .toggle) ∧
  decode 0x3005 = .instr (.srConfigure .output .toggle) ∧ decode 0x3006 = .instr (.srConfigure .input .toggle) ∧
  ∀ (s : State) (mode : SrMode), mode ≠ .reserved →
    (mode ≠ .output ∨ s.extLevel = true →
      Completes (.srConfigure mode .timerOvf) s [.srMode, .srClk] fun t =>
        t.shift.mode = mode ∧ t.shift.clk = .timerOvf ∧
        t.line = if mode = .output then s.shift.sr.getLsbD 7 else s.extLevel) ∧
    (mode = .output → s.extLevel = false →
      CollidesAfter (exec (.srConfigure mode .timerOvf) s) s [.srMode, .srClk] fun t =>
        t.shift.mode = .output ∧ t.shift.clk = .timerOvf) ∧
    exec (.srConfigure mode .toggle) s = .refused (.refusedStep .unmodelledClockSource { s with refused := true })

/-- R233, R234, R235, R237, R238: the counter seed, the data register's read and write, the interrupt enable and the flag
clear each do what their rule says and change nothing else.
That a command of the component harness without a result leaves `RET` as it was and moves no `MAINPC` is the model's
choice (DESIGN CHOICE, log 8). -/
def Obligations.ShiftRegisterPrimitives : Prop :=
  ∀ s : State, s.collides = false →
    (∀ n : Nibble, decode (byteWord 0x31 (n.setWidth 8)) = .instr (.srSetSeed n) ∧
      Completes (.srSetSeed n) s [.cnt] fun t => t.shift.cnt = n) ∧
    (decode 0x3200 = .instr .srReadData ∧ Completes .srReadData s [.ret] fun t => t.ret = .byte s.shift.sr) ∧
    (∀ v : Byte, decode (byteWord 0x33 v) = .instr (.srWriteData v) ∧
      Completes (.srWriteData v) s [.sr] fun t =>
        t.shift.sr = v ∧ (s.shift.mode = .output → t.line = v.getLsbD 7)) ∧
    (∀ e : Bool, decode (byteWord 0x34 (BitVec.zeroExtend 8 (BitVec.ofBool e))) = .instr (.srEnableOvfIrq e) ∧
      Completes (.srEnableOvfIrq e) s [.srOvfIe] fun t =>
        t.shift.ovfIe = e ∧ (e = true → s.gie = true → s.shift.ovfFlag = true → t.handlerEnabled .srOvf = true)) ∧
    (decode 0x3500 = .instr .srClearFlag ∧ Completes .srClearFlag s [.srOvfFlag] fun t => t.shift.ovfFlag = false)

/-! ## Bit clock -/

/-- R271 to R274, the timer primitives: a write sets the count, an add wraps modulo 256, neither is a tick; start and stop
write the three flags and keep the count.
That a command of the component harness without a result leaves `RET` as it was and moves no `MAINPC` is the model's
choice (DESIGN CHOICE, log 8). -/
def Obligations.TimerPrimitives : Prop :=
  ∀ s : State, s.collides = false →
    (∀ v : Byte, decode (byteWord 0x40 v) = .instr (.timerWrite v) ∧
      Completes (.timerWrite v) s [.tcnt] fun t => t.timer.tcnt = v) ∧
    (∀ v : Byte, decode (byteWord 0x41 v) = .instr (.timerAdd v) ∧
      Completes (.timerAdd v) s [.tcnt] fun t => t.timer.tcnt.toNat = (s.timer.tcnt.toNat + v.toNat) % 256) ∧
    (decode 0x4200 = .instr .timerStart ∧ Completes .timerStart s [.timerRun, .timerOvfIe, .timerOvfFlag] fun t =>
      t.timer.run = true ∧ t.timer.ovfIe = true ∧ t.timer.ovfFlag = false) ∧
    (decode 0x4300 = .instr .timerStop ∧ Completes .timerStop s [.timerRun, .timerOvfIe, .timerOvfFlag] fun t =>
      t.timer.run = false ∧ t.timer.ovfIe = false ∧ t.timer.ovfFlag = false)

/-- R275, `ISR_TIMER_OVF`: entry clears its flag, the body adds the steady-state reload, whatever the line role. -/
def Obligations.TimerHandlerAddsTheSteadyReload : Prop :=
  decode 0x6100 = .instr .isrTimerOvf ∧
  ∀ s : State, s.collides = false → Completes .isrTimerOvf s [.tcnt, .timerOvfFlag] fun t =>
    t.timer.ovfFlag = false ∧ t.timer.tcnt.toNat = (s.timer.tcnt.toNat + s.cfg.reloadSteady.toNat) % 256

/-- R276 and R236, `TIME_STEP`: ghost time advances; a stopped timer does nothing more; a running one counts, and its
increment from 255 to 0 is the tick, which sets `TIMER_OVF_FLAG` and, when the peripheral is on and the timer clocks it,
shifts the register one place toward bit 7 with the line's level entering bit 0 and counts, the wrap from 15 to 0
setting `SR_OVF_FLAG`. -/
def Obligations.TimeStepCountsAndTicks : Prop :=
  decode 0x7000 = .instr .timeStep ∧
  ∀ s : State, s.collides = false →
    (s.timer.run = false → Completes .timeStep s [.time] fun t => t.time = s.time + 1) ∧
    (s.timer.run = true → s.timer.tcnt ≠ 255 → Completes .timeStep s [.time, .tcnt] fun t =>
      t.time = s.time + 1 ∧ t.timer.tcnt.toNat = s.timer.tcnt.toNat + 1) ∧
    (s.timer.run = true → s.timer.tcnt = 255 → s.shift.mode = .off ∨ s.shift.clk = .toggle →
      Completes .timeStep s [.time, .tcnt, .timerOvfFlag] fun t =>
        t.time = s.time + 1 ∧ t.timer.tcnt = 0 ∧ t.timer.ovfFlag = true) ∧
    (s.timer.run = true → s.timer.tcnt = 255 → s.shift.mode ≠ .off → s.shift.clk = .timerOvf →
      Completes .timeStep s [.time, .tcnt, .timerOvfFlag, .sr, .cnt, .srOvfFlag] fun t =>
        t.time = s.time + 1 ∧ t.timer.tcnt = 0 ∧ t.timer.ovfFlag = true ∧
        t.shift.sr.getLsbD 0 = s.line ∧ (∀ k, k < 7 → t.shift.sr.getLsbD (k + 1) = s.shift.sr.getLsbD k) ∧
        t.shift.cnt.toNat = (s.shift.cnt.toNat + 1) % 16 ∧
        t.shift.ovfFlag = (s.shift.ovfFlag || decide (s.shift.cnt = 15)))

/-- R277, the period law, for every handler latency λ with λ + R_S <= 255: the next tick comes 256 - (λ + R_S) counts after
the handler, that is 256 - R_S after the tick it serves, and that is P - R_ADJ wherever P - R_ADJ is a possible interval
(1 to 256 counts), so exactly P with R_ADJ = 0. -/
def Obligations.PeriodLawForEveryLatency : Prop :=
  ∀ s : State, s.timer.run = true → s.collides = false →
    s.timer.tcnt.toNat + s.cfg.reloadSteady.toNat ≤ 255 →
    (∃ t, exec .isrTimerOvf s = .next t ∧
      TickComesAfter (256 - (s.timer.tcnt.toNat + s.cfg.reloadSteady.toNat)) t) ∧
    (1 ≤ (s.cfg.bitPeriod : Int) - s.cfg.rAdj → (s.cfg.bitPeriod : Int) - s.cfg.rAdj ≤ 256 →
      256 - (s.cfg.reloadSteady.toNat : Int) = (s.cfg.bitPeriod : Int) - s.cfg.rAdj)

/-- R278, a late handler: when λ + R_S passes 255 the add wraps, and the next tick comes 256 + (256 - R_S) counts after
the tick the handler serves, that is 512 - R_S - λ after the handler. -/
def Obligations.LateHandlerDelaysTheTickByAFullTurn : Prop :=
  ∀ s : State, s.timer.run = true → s.collides = false →
    256 ≤ s.timer.tcnt.toNat + s.cfg.reloadSteady.toNat →
    ∃ t, exec .isrTimerOvf s = .next t ∧
      TickComesAfter (512 - s.cfg.reloadSteady.toNat - s.timer.tcnt.toNat) t

/-- R279, the first tick of a reception: after `ISR_EDGE` has accepted a start bit, it comes H - D_ENTRY counts later. -/
def Obligations.FirstReceiveTickIsHalfAPeriodLessTheLatency : Prop :=
  ∀ s : State, s.cfg.valid = true → s.inTransfer = false → s.line = false →
    ∃ t, exec .isrEdge s = .next t ∧ TickComesAfter (s.cfg.halfPeriod - s.cfg.dEntry) t

/-- R280, the first tick of a transmission: it comes 256 - R_S counts after the `TB_WAIT_RX` step, P when R_ADJ = 0. -/
def Obligations.FirstTransmitTickIsOnePeriod : Prop :=
  ∀ s : State, s.cfg.valid = true → s.mainPc = .tbWaitRx → s.status.rxPackageActive = false → s.extLevel = true →
    (∃ t, microStep s = .next t ∧ TickComesAfter (256 - s.cfg.reloadSteady.toNat) t) ∧
    (s.cfg.rAdj = 0 → 256 - s.cfg.reloadSteady.toNat = s.cfg.bitPeriod)

/-! ## Edge detector and arbiter -/

/-- R202, R203, R204: arming clears the flag, samples the line and enables; disarming disables and clears the flag, which
`settle` then sets again only if the line differs from the level last seen; reading gives the line's level.
That a command of the component harness without a result leaves `RET` as it was and moves no `MAINPC` is the model's
choice (DESIGN CHOICE, log 8). That `LINE_READ`'s result is a bool is the
model's choice too (log 8). -/
def Obligations.EdgeDetectorPrimitives : Prop :=
  decode 0x5000 = .instr .edgeArm ∧ decode 0x5100 = .instr .edgeDisarm ∧ decode 0x5200 = .instr .lineRead ∧
  ∀ s : State, s.collides = false →
    (∃ t, exec .edgeArm s = .next t ∧ t.edge.ie = true ∧ t.edge.flag = false ∧ t.edge.lastLevel = s.line ∧
      OnlyChanges [.edgeIe, .edgeFlag, .lastLevel] s t) ∧
    (∃ t, exec .edgeDisarm s = .next t ∧ t.edge.ie = false ∧ t.edge.flag = (s.line != s.edge.lastLevel) ∧
      t.edge.lastLevel = s.line ∧ OnlyChanges [.edgeIe, .edgeFlag, .lastLevel] s t) ∧
    (Completes .lineRead s [.ret] fun t =>
      t.ret = .bool (if s.shift.mode = .output then s.shift.sr.getLsbD 7 else s.extLevel))

/-- R215 and R216, and R348 for its cleared flag, `ISR_EDGE`: in a transfer it raises `F_EDGE_IN_TRANSFER` and changes nothing else; with the line at 0 it
starts a reception; with the line at 1 it only clears its flag. -/
def Obligations.EdgeHandlerStartsAReceptionOnALowLine : Prop :=
  decode 0x6000 = .instr .isrEdge ∧
  ∀ s : State,
    (s.inTransfer = true → FaultsOnly (exec .isrEdge s) s .edgeInTransfer) ∧
    (s.inTransfer = false → s.line = false →
      ∃ t, exec .isrEdge s = .next t ∧ t.timer.tcnt = s.cfg.reloadInitial ∧ t.timer.run = true ∧
        t.timer.ovfIe = true ∧ t.timer.ovfFlag = false ∧ t.shift.mode = .input ∧ t.shift.clk = .timerOvf ∧
        t.shift.cnt.toNat = 7 ∧ t.shift.ovfFlag = false ∧ t.shift.ovfIe = true ∧ t.edge.ie = false ∧
        t.edge.flag = (s.extLevel != s.edge.lastLevel) ∧ t.edge.lastLevel = s.extLevel ∧
        t.status.rxPackageActive = true ∧
        OnlyChanges [.tcnt, .timerRun, .timerOvfIe, .timerOvfFlag, .srMode, .srClk, .cnt, .srOvfFlag, .srOvfIe,
          .edgeIe, .edgeFlag, .lastLevel, .rxPackageActive] s t) ∧
    (s.inTransfer = false → s.line = true → s.collides = false →
      ∃ t, exec .isrEdge s = .next t ∧ t.edge.flag = (true != s.edge.lastLevel) ∧ t.edge.lastLevel = true ∧
        OnlyChanges [.edgeFlag, .lastLevel] s t)

/-! ## Transport -/

/-- R241, `ISR_SR_OVF` with the first half-frame completed: the second is loaded and the counter reseeded with 11. -/
def Obligations.OverflowLoadsTheSecondHalfFrame : Prop :=
  ∀ s : State, s.status.txFromBufferActive = true → s.status.txHalfFrameActive = true → s.collides = false →
    Completes .isrSrOvf s [.srOvfFlag, .txHalfFrameActive, .sr, .cnt] fun t =>
      t.shift.ovfFlag = false ∧ t.status.txHalfFrameActive = false ∧ t.shift.sr = (s.inflight <<< 3) ||| 0x07 ∧
      t.shift.cnt.toNat = 11

/-- R242, `ISR_SR_OVF` with no second half pending and a byte queued: the oldest byte leaves the TX ring, as it is stored,
its first half-frame is loaded and the counter reseeded with 11. -/
def Obligations.OverflowLoadsTheNextByte : Prop :=
  ∀ s : State, s.cfg.valid = true → s.status.txFromBufferActive = true → s.status.txHalfFrameActive = false →
    s.tx.head ≠ s.tx.tail → s.collides = false →
    let tmp := (s.tx.tail + 1) &&& s.cfg.mask .tx
    Completes .isrSrOvf s [.srOvfFlag, .txHalfFrameActive, .sr, .cnt, .inflight, .tail .tx] fun t =>
      t.shift.ovfFlag = false ∧ t.inflight = s.slot .tx tmp ∧ t.tx.tail = tmp ∧ t.status.txHalfFrameActive = true ∧
      t.shift.sr = 0x80 ||| (s.slot .tx tmp >>> 2) ∧ t.shift.cnt.toNat = 11

/-- R243 and R211, `ISR_SR_OVF` with nothing left to send: the transmission ends, the peripheral and the timer are
disabled, the line is released and edge detection armed on it; `SR`, `CNT` and `TCNT` keep their values. -/
def Obligations.OverflowEndsTheTransmission : Prop :=
  ∀ s : State, s.status.txFromBufferActive = true → s.status.txHalfFrameActive = false → s.tx.head = s.tx.tail →
    ∃ t, exec .isrSrOvf s = .next t ∧ t.status.txFromBufferActive = false ∧ t.timer.run = false ∧
      t.timer.ovfIe = false ∧ t.timer.ovfFlag = false ∧ t.shift.mode = .off ∧ t.shift.clk = .timerOvf ∧
      t.shift.ovfIe = false ∧ t.shift.ovfFlag = false ∧ t.edge.ie = true ∧ t.edge.flag = false ∧
      t.edge.lastLevel = s.extLevel ∧
      OnlyChanges [.txFromBufferActive, .timerRun, .timerOvfIe, .timerOvfFlag, .srMode, .srClk, .srOvfIe, .srOvfFlag,
        .edgeIe, .edgeFlag, .lastLevel] s t

/-- R244, `ISR_SR_OVF` while receiving: the captured register is stored as it is when the RX ring has room; a full ring is
left unchanged and `rxOverflow` latches; either way the reception ends, released and armed. -/
def Obligations.OverflowStoresOrDiscardsTheReceivedByte : Prop :=
  ∀ s : State, s.cfg.valid = true → s.status.txFromBufferActive = false → s.status.rxPackageActive = true →
    let tmp := (s.rx.head + 1) &&& s.cfg.mask .rx
    ∃ t, exec .isrSrOvf s = .next t ∧ t.status.rxPackageActive = false ∧ t.timer.run = false ∧
      t.timer.ovfIe = false ∧ t.timer.ovfFlag = false ∧ t.shift.mode = .off ∧ t.shift.clk = .timerOvf ∧
      t.shift.ovfIe = false ∧ t.shift.ovfFlag = false ∧ t.edge.ie = true ∧ t.edge.flag = false ∧
      t.edge.lastLevel = s.extLevel ∧
      (tmp ≠ s.rx.tail → t.slot .rx tmp = s.shift.sr ∧ t.rx.head = tmp ∧
        OnlyChanges [.rxPackageActive, .head .rx, .slot .rx tmp, .timerRun, .timerOvfIe, .timerOvfFlag, .srMode,
          .srClk, .srOvfIe, .srOvfFlag, .edgeIe, .edgeFlag, .lastLevel] s t) ∧
      (tmp = s.rx.tail → t.status.rxOverflow = true ∧
        OnlyChanges [.rxPackageActive, .rxOverflow, .timerRun, .timerOvfIe, .timerOvfFlag, .srMode, .srClk, .srOvfIe,
          .srOvfFlag, .edgeIe, .edgeFlag, .lastLevel] s t)

/-- R240's last branch: `ISR_SR_OVF` with no transfer raises `F_SPURIOUS_SR_OVF` and changes nothing else, its flag
clear included (60_exceptions.md R350). -/
def Obligations.OverflowWithoutATransferFaults : Prop :=
  decode 0x6200 = .instr .isrSrOvf ∧
  ∀ s : State, s.inTransfer = false → FaultsOnly (exec .isrSrOvf s) s .spuriousSrOvf

/-! ## Host commands and micro-steps -/

/-- R302, `INIT_RECEIVER`: during a transfer it raises `F_INIT_DURING_TRANSFER` and changes nothing else; already armed it
changes nothing but its return; otherwise it releases and arms. -/
def Obligations.InitReceiverArmsFromIdle : Prop :=
  decode 0x0100 = .instr .initReceiver ∧
  ∀ s : State,
    (s.inTransfer = true → FaultsOnly (exec .initReceiver s) s .initDuringTransfer) ∧
    (s.inTransfer = false → s.edge.ie = true → s.collides = false →
      Completes .initReceiver s [.ret, .mainPc] fun t => t.ret = .none ∧ t.mainPc = .ready) ∧
    (s.inTransfer = false → s.edge.ie = false →
      ∃ t, exec .initReceiver s = .next t ∧ t.ret = .none ∧ t.mainPc = .ready ∧ t.timer.run = false ∧
        t.timer.ovfIe = false ∧ t.timer.ovfFlag = false ∧ t.shift.mode = .off ∧ t.shift.clk = .timerOvf ∧
        t.shift.ovfIe = false ∧ t.shift.ovfFlag = false ∧ t.edge.ie = true ∧ t.edge.flag = false ∧
        t.edge.lastLevel = s.extLevel ∧
        OnlyChanges [.ret, .mainPc, .timerRun, .timerOvfIe, .timerOvfFlag, .srMode, .srClk, .srOvfIe, .srOvfFlag,
          .edgeIe, .edgeFlag, .lastLevel] s t)

/-- R303 and R307, the acceptance of the two blocking commands: `MAINPC` moves to the first micro-step, which holds the
reversed byte for `TRANSMIT_BYTE`; nothing is queued or returned yet. -/
def Obligations.BlockingCommandsOnlyMoveMainPc : Prop :=
  (∀ b : Byte, decode (byteWord 0x02 b) = .instr (.transmitByte b)) ∧ decode 0x0300 = .instr .receiveByte ∧
  ∀ s : State, s.collides = false →
    (∀ b : Byte, Completes (.transmitByte b) s [.mainPc] fun t =>
      ∃ v : Byte, t.mainPc = .tbSpace v ∧ ∀ i, i < 8 → v.getLsbD i = b.getLsbD (7 - i)) ∧
    (Completes .receiveByte s [.mainPc] fun t => t.mainPc = .rbWait)

/-- R309, R311, R313: `DATA_AVAILABLE` and `READ_RX_OVERFLOW` return what they read and change nothing;
`CLEAR_RX_OVERFLOW` clears the latched flag. -/
def Obligations.StatusCommandsReturnInOneStep : Prop :=
  decode 0x0400 = .instr .dataAvailable ∧ decode 0x0600 = .instr .readRxOverflow ∧
  decode 0x0700 = .instr .clearRxOverflow ∧
  ∀ s : State, s.collides = false →
    (Completes .dataAvailable s [.ret, .mainPc] fun t =>
      t.ret = .bool (decide (s.rx.head ≠ s.rx.tail)) ∧ t.mainPc = .ready) ∧
    (Completes .readRxOverflow s [.ret, .mainPc] fun t => t.ret = .bool s.status.rxOverflow ∧ t.mainPc = .ready) ∧
    (Completes .clearRxOverflow s [.ret, .mainPc, .rxOverflow] fun t =>
      t.status.rxOverflow = false ∧ t.ret = .none ∧ t.mainPc = .ready)

/-- R310, `FLUSH_BUFFERS`: during a transfer it raises `F_FLUSH_DURING_TRANSFER` and changes nothing else; otherwise both
rings are empty, their slots and `rxOverflow` kept. -/
def Obligations.FlushBuffersEmptiesBothRings : Prop :=
  decode 0x0500 = .instr .flushBuffers ∧
  ∀ s : State,
    (s.inTransfer = true → FaultsOnly (exec .flushBuffers s) s .flushDuringTransfer) ∧
    (s.inTransfer = false → s.collides = false →
      Completes .flushBuffers s [.ret, .mainPc, .head .tx, .tail .tx, .head .rx, .tail .rx] fun t =>
        t.tx.head = 0 ∧ t.tx.tail = 0 ∧ t.rx.head = 0 ∧ t.rx.tail = 0 ∧ t.ret = .none ∧ t.mainPc = .ready)

/-- R304, micro-step `TB_SPACE(v)`: it stays while the TX ring is full, and otherwise queues v and goes on to
`TB_CHECK`. -/
def Obligations.TbSpaceQueuesOrStays : Prop :=
  ∀ (s : State) (v : Byte), s.cfg.valid = true → s.mainPc = .tbSpace v → s.collides = false →
    let tmp := (s.tx.head + 1) &&& s.cfg.mask .tx
    ∃ t, microStep s = .next t ∧ EdgeSettled s t ∧
      (tmp = s.tx.tail → OnlyChanges [.edgeFlag, .lastLevel] s t) ∧
      (tmp ≠ s.tx.tail → t.mainPc = .tbCheck ∧ t.tx.head = tmp ∧ t.slot .tx tmp = v ∧
        OnlyChanges [.mainPc, .head .tx, .slot .tx tmp, .edgeFlag, .lastLevel] s t)

/-- R305, micro-step `TB_CHECK`: it returns when a transmission runs and otherwise goes on to `TB_WAIT_RX`. -/
def Obligations.TbCheckReturnsOrWaits : Prop :=
  ∀ s : State, s.mainPc = .tbCheck → s.collides = false →
    ∃ t, microStep s = .next t ∧ EdgeSettled s t ∧
      (s.status.txFromBufferActive = true → t.ret = .none ∧ t.mainPc = .ready ∧
        OnlyChanges [.ret, .mainPc, .edgeFlag, .lastLevel] s t) ∧
      (s.status.txFromBufferActive = false → t.mainPc = .tbWaitRx ∧
        OnlyChanges [.mainPc, .edgeFlag, .lastLevel] s t)

/-- R306 and R210, micro-step `TB_WAIT_RX`: it stays while a reception is running; otherwise it performs `START_TX` in the
same step, and that collides when the far end holds the line at 0, with every write of the step kept. -/
def Obligations.TbWaitRxStartsTheTransmission : Prop :=
  ∀ s : State, s.mainPc = .tbWaitRx →
    (s.status.rxPackageActive = true → s.collides = false →
      ∃ t, microStep s = .next t ∧ EdgeSettled s t ∧ OnlyChanges [.edgeFlag, .lastLevel] s t) ∧
    (s.status.rxPackageActive = false → s.extLevel = true →
      ∃ t, microStep s = .next t ∧ TransmissionStarted s t ∧
        OnlyChanges (.edgeFlag :: .lastLevel :: transmissionStartParts) s t) ∧
    (s.status.rxPackageActive = false → s.extLevel = false →
      CollidesAfter (microStep s) s transmissionStartParts (TransmissionStarted s))

/-- R308, micro-step `RB_WAIT`: it stays while the RX ring is empty; otherwise it dequeues the oldest byte and returns it
bit-reversed. -/
def Obligations.RbWaitReturnsTheReversedByte : Prop :=
  ∀ s : State, s.cfg.valid = true → s.mainPc = .rbWait → s.collides = false →
    let tmp := (s.rx.tail + 1) &&& s.cfg.mask .rx
    ∃ t, microStep s = .next t ∧ EdgeSettled s t ∧
      (s.rx.head = s.rx.tail → OnlyChanges [.edgeFlag, .lastLevel] s t) ∧
      (s.rx.head ≠ s.rx.tail → t.mainPc = .ready ∧ t.rx.tail = tmp ∧
        (∃ b : Byte, t.ret = .byte b ∧ ∀ i, i < 8 → b.getLsbD i = (s.slot .rx tmp).getLsbD (7 - i)) ∧
        OnlyChanges [.mainPc, .ret, .tail .rx, .edgeFlag, .lastLevel] s t)

/-! ## Environment events -/

/-- R320 and R321: `LINE_SET l` sets the far end's level, which latches an edge when the line changes and collides when
it is 0 while the block drives; `GIE_SET g` sets the global enable and keeps every pending flag. -/
def Obligations.EnvironmentEventsSetTheirInput : Prop :=
  (∀ l : Level, decode (byteWord 0x71 (BitVec.zeroExtend 8 (BitVec.ofBool l))) = .instr (.lineSet l)) ∧
  (∀ g : Bool, decode (byteWord 0x72 (BitVec.zeroExtend 8 (BitVec.ofBool g))) = .instr (.gieSet g)) ∧
  ∀ s : State,
    (∀ l : Level, l = true ∨ s.shift.mode ≠ .output → Completes (.lineSet l) s [.extLevel] fun t =>
      t.extLevel = l ∧ (s.shift.mode ≠ .output → t.line = l)) ∧
    (s.shift.mode = .output → CollidesAfter (exec (.lineSet false) s) s [.extLevel] fun t => t.extLevel = false) ∧
    (∀ g : Bool, s.collides = false → Completes (.gieSet g) s [.gie] fun t => t.gie = g)

/-! ## Invariants and whole-machine rules -/

/-- R219: in the integrated machine every step of every agent keeps the configuration invariants 1 to 6. -/
def Obligations.EveryStepKeepsTheConfigurationInvariants : Prop :=
  ∀ s t : State, Integrated s → ConfigurationInv s → step s = .next t → Integrated t ∧ ConfigurationInv t

/-- R314: in the integrated machine every step keeps: the TX ring is empty unless a transmission runs or `MAINPC` is about
to start one. -/
def Obligations.EveryStepKeepsTheIdleTxRingEmpty : Prop :=
  ∀ s t : State, Integrated s → IdleTxRingInv s → step s = .next t → IdleTxRingInv t

/-- The invariants hold at launch, for every valid configuration and whatever the unspecified fields hold (R219, R41,
R314, R383); `State.reset` is such a launch state (its configuration and the values of its unspecified fields are the
model's choice, logs 1 and 6). -/
def Obligations.InvariantsHoldAtLaunch : Prop :=
  ∀ (c : Config) (inflight sr : Byte) (cnt : Nibble), c.valid = true →
    Integrated (State.launch c inflight sr cnt) ∧ ConfigurationInv (State.launch c inflight sr cnt) ∧
    RingInv (State.launch c inflight sr cnt) ∧ IdleTxRingInv (State.launch c inflight sr cnt) ∧
    Settled (State.launch c inflight sr cnt) ∧ LaunchPremise State.reset

/-- 60_exceptions.md R341, "Codes 4 to 7 are unreachable in the integrated machine": where the invariants hold, no step
raises one of them. -/
def Obligations.FaultCodesFourToSevenAreUnreachable : Prop :=
  ∀ (s t : State) (c : FaultCode), Integrated s → ConfigurationInv s → RingInv s →
    step s = .fault (.raised c t) →
    c ≠ .spuriousSrOvf ∧ c ≠ .edgeInTransfer ∧ c ≠ .popEmpty ∧ c ≠ .index

/-- R220: while a reception burst is active no step starts driving the line; the line is not driven before the step or
after it, and no transmission becomes active. -/
def Obligations.ReceptionExcludesDrivingTheLine : Prop :=
  ∀ s t : State, Integrated s → ConfigurationInv s → s.status.rxPackageActive = true → step s = .next t →
    s.shift.mode ≠ .output ∧ t.shift.mode ≠ .output ∧ t.status.txFromBufferActive = false

/-- R35, the writers of the status flags: of all commands only `RESET`, `ISR_EDGE`, `ISR_SR_OVF` and, for `rxOverflow`
alone, `CLEAR_RX_OVERFLOW` change one; of the micro-steps only `TB_WAIT_RX` (`START_TX`) does, and it leaves the receive
flags alone. -/
def Obligations.OnlyTheNamedWritersChangeAStatusFlag : Prop :=
  (∀ (i : Instr) (s t : State), exec i s = .next t → i ≠ .reset → i ≠ .isrEdge → i ≠ .isrSrOvf →
    t.status.txFromBufferActive = s.status.txFromBufferActive ∧
    t.status.txHalfFrameActive = s.status.txHalfFrameActive ∧ t.status.rxPackageActive = s.status.rxPackageActive ∧
    (i ≠ .clearRxOverflow → t.status.rxOverflow = s.status.rxOverflow)) ∧
  (∀ s t : State, microStep s = .next t →
    t.status.rxPackageActive = s.status.rxPackageActive ∧ t.status.rxOverflow = s.status.rxOverflow ∧
    (s.mainPc ≠ .tbWaitRx → t.status = s.status))

/-- The inputs and records of the state (10_state.md R30, R34, R52, R57, R60, R61, R62): no command changes the
configuration, and none that completes changes `FAULTS` or `REFUSED`; only `LINE_SET` writes `EXT_LEVEL`, only `GIE_SET` and
`RESET` write `GIE`, only `TIME_STEP` advances `T`, by one, and only `CLEAR_RX_OVERFLOW` and `RESET` clear `rxOverflow`. No
micro-step of `MAIN` that completes writes any of them. -/
def Obligations.OnlyTheNamedCommandsWriteInputsAndRecords : Prop :=
  (∀ (i : Instr) (s t : State), exec i s = .next t →
    t.cfg = s.cfg ∧ t.faults = s.faults ∧ t.refused = s.refused ∧ t.inbox = s.inbox ∧ t.sched = s.sched ∧
    ((∀ l, i ≠ .lineSet l) → t.extLevel = s.extLevel) ∧
    (i ≠ .reset → (∀ g, i ≠ .gieSet g) → t.gie = s.gie) ∧
    t.time = s.time + (if i = .timeStep then 1 else 0) ∧
    (i ≠ .reset → i ≠ .clearRxOverflow → s.status.rxOverflow = true → t.status.rxOverflow = true)) ∧
  (∀ s t : State, microStep s = .next t →
    t.cfg = s.cfg ∧ t.faults = s.faults ∧ t.refused = s.refused ∧ t.inbox = s.inbox ∧ t.sched = s.sched ∧
    t.extLevel = s.extLevel ∧ t.gie = s.gie ∧ t.time = s.time ∧ t.status.rxOverflow = s.status.rxOverflow)

/-- 60_exceptions.md R348: a handler leaves `MAINPC`, `RET` and `GIE` unchanged, and clears its own pending flag, which is
pending afterwards only where an edge is latched by `settle`. -/
def Obligations.HandlersLeaveTheMainFlowAlone : Prop :=
  ∀ (h : Irq) (s t : State), exec h.instr s = .next t →
    t.mainPc = s.mainPc ∧ t.ret = s.ret ∧ t.gie = s.gie ∧
    (h ≠ .edge → t.pending h = false) ∧ (h = .edge → s.edge.lastLevel = t.line → t.pending h = false)

/-- 43_line_arbiter.md R205, `settle` at the end of every step of every agent. After a step that completes, `LAST_LEVEL` is
the line's level and the block does not drive against a far end at 0; a step that raises `F_COLLISION` ends in OUTPUT mode
with the far end at 0. A level that differs from the one last seen latches `EDGE_FLAG`, unless the command itself samples
the line (`EDGE_ARM` and the two commands that can perform it, R202; `RESET`, R65); a level that does not differ sets no
flag. -/
def Obligations.EveryCompletedStepIsSettled : Prop :=
  (∀ s t : State, step s = .next t → Settled t) ∧
  (∀ s t : State, step s = .fault (.raised .collision t) →
    t.shift.mode = .output ∧ t.extLevel = false ∧ t.edge.lastLevel = t.line) ∧
  (∀ (i : Instr) (s t : State), exec i s = .next t →
    (i ≠ .edgeArm → i ≠ .initReceiver → i ≠ .isrSrOvf → i ≠ .reset → t.line ≠ s.edge.lastLevel → t.edge.flag = true) ∧
    (t.line = s.edge.lastLevel → t.edge.flag = true → s.edge.flag = true)) ∧
  (∀ s t : State, microStep s = .next t →
    (t.line ≠ s.edge.lastLevel → t.edge.flag = true) ∧
    (t.line = s.edge.lastLevel → t.edge.flag = true → s.edge.flag = true))

/-- 10_state.md R62: "No rule of the block reads" the ghost time: shifting `T` shifts the outcome's `T` and nothing else,
whichever of the three outcomes it is: the same fault stays that fault, the same refusal that refusal. -/
def Obligations.GhostTimeInfluencesNothing : Prop :=
  ∀ (s : State) (n : Nat), step { s with time := s.time + n } = outcomeLater n (step s)

/-! ## Waveforms -/

/-- R126, R127, R130: from its load in OUTPUT mode, a half-frame shows its bits at the load and after each of its 5
ticks: the idle lead, the start bit and b[0] to b[3] in the first half, b[3] to b[7] and the stop bit in the second; the
counter seeded with 11 overflows with the 5th tick and not before. -/
def Obligations.HalfFramesShowTheFrameBits : Prop :=
  ∀ (s : State) (b : Byte), s.shift.mode = .output → s.shift.clk = .timerOvf → s.shift.cnt = seedTx →
    s.shift.ovfFlag = false →
    (s.shift.sr = halfFrame1 (reverseBits b) →
      ((List.range 6).map fun k => (shiftTick^[k] s).line) =
        [true, false, b.getLsbD 0, b.getLsbD 1, b.getLsbD 2, b.getLsbD 3]) ∧
    (s.shift.sr = halfFrame2 (reverseBits b) →
      ((List.range 6).map fun k => (shiftTick^[k] s).line) =
        [b.getLsbD 3, b.getLsbD 4, b.getLsbD 5, b.getLsbD 6, b.getLsbD 7, true]) ∧
    (∀ k, k < 5 → (shiftTick^[k] s).shift.ovfFlag = false) ∧ (shiftTick^[5] s).shift.ovfFlag = true

/-- R129: the receive burst overflows exactly with its 9th tick, and then the register holds the reversed byte, whatever it
held before: the start bit has left it and the stop bit is not sampled. -/
def Obligations.ReceiveBurstCapturesTheReversedByte : Prop :=
  ∀ (s : State) (b : Byte), s.shift.mode = .input → s.shift.clk = .timerOvf → s.shift.cnt = seedRx →
    s.shift.ovfFlag = false →
    (∀ k, k ≤ 8 → (((wireFrame b).take k).foldl sampleTick s).shift.ovfFlag = false) ∧
    (((wireFrame b).take 9).foldl sampleTick s).shift.ovfFlag = true ∧
    (((wireFrame b).take 9).foldl sampleTick s).shift.sr = reverseBits b

/-- R245 for one byte, with every handler taken at once: from the `TB_WAIT_RX` step of an idle block whose TX ring holds
exactly the byte's stored form, after every step of the run the line shows R245's level for the counts passed since,
and at the end the role is Idle, armed. Every valid configuration with R_ADJ = 0. -/
def Obligations.TransmittedByteIsItsWireFrame : Prop :=
  ∀ (s : State) (b : Byte), s.quiescent = false → RingInv s → s.cfg.rAdj = 0 → s.gie = true → s.extLevel = true →
    s.mainPc = .tbWaitRx → s.inTransfer = false → s.ringContents .tx = [reverseBits b] →
    (∀ n, 1 ≤ n → n ≤ (oneByteSchedule s.cfg).length →
      ∃ t, Sys2Proof.core.run n { s with sched := oneByteSchedule s.cfg } = .next t ∧
        t.line = waveformLevel s.cfg.bitPeriod b (t.time - s.time)) ∧
    ∃ t, Sys2Proof.core.run (oneByteSchedule s.cfg).length { s with sched := oneByteSchedule s.cfg } = .next t ∧
      t.role = .idle ∧ t.edge.ie = true ∧ t.time = s.time + 11 * s.cfg.bitPeriod ∧ t.ringContents .tx = []

/-! ## Packed registers -/

/-- R36 and R123: the byte layouts of `STATUS`, `TCTL`, `SRCTL` and `EDGECTL`, reserved bits reading as 0. -/
def Obligations.PackedRegistersHaveTheirLayouts : Prop :=
  ∀ s : State,
    (s.statusByte.getLsbD 0 = s.status.txFromBufferActive ∧ s.statusByte.getLsbD 1 = s.status.txHalfFrameActive ∧
      s.statusByte.getLsbD 2 = s.status.rxPackageActive ∧ s.statusByte.getLsbD 3 = s.status.rxOverflow ∧
      s.statusByte.toNat < 16) ∧
    (s.tctlByte.getLsbD 0 = s.timer.run ∧ s.tctlByte.getLsbD 1 = s.timer.ovfIe ∧
      s.tctlByte.getLsbD 2 = s.timer.ovfFlag ∧ s.tctlByte.toNat < 8) ∧
    (s.srctlByte.extractLsb' 0 2 = modeBits s.shift.mode ∧ s.srctlByte.getLsbD 2 = clkBit s.shift.clk ∧
      s.srctlByte.getLsbD 3 = s.shift.ovfIe ∧ s.srctlByte.getLsbD 4 = s.shift.ovfFlag ∧ s.srctlByte.toNat < 32) ∧
    (s.edgectlByte.getLsbD 0 = s.edge.ie ∧ s.edgectlByte.getLsbD 1 = s.edge.flag ∧
      s.edgectlByte.getLsbD 2 = s.edge.lastLevel ∧ s.edgectlByte.toNat < 8)
end

