-- ==== Sys2Proof/Laws/Memory.lean ====
section
/-! SUPPORT. The laws of ring storage: a read after a write, and the canonical form. -/

namespace Sys2Proof.Laws

open Sys2Proof.Machine

theorem read_nil (a : Nat) : Memory.read? [] a = none := rfl

/-- A read of the slot just written gives the byte written. -/
@[simp] theorem read_write_same (m : Memory) (a : Nat) (v : Byte) :
    Memory.read? (Memory.write m a v) a = some v := by
  induction m with
  | nil => simp [Memory.write, Memory.read?]
  | cons c m ih =>
    obtain ⟨b, w⟩ := c
    by_cases h1 : a < b
    · simp [Memory.write, Memory.read?, h1]
    · by_cases h2 : a = b
      · simp [Memory.write, Memory.read?, h2]
      · simp [Memory.write, Memory.read?, h1, h2, ih]

/-- A write leaves every other slot alone. -/
theorem read_write_other (m : Memory) (a b : Nat) (v : Byte) (h : b ≠ a) :
    Memory.read? (Memory.write m a v) b = Memory.read? m b := by
  induction m with
  | nil => simp [Memory.write, Memory.read?, h]
  | cons c m ih =>
    obtain ⟨k, w⟩ := c
    by_cases h1 : a < k
    · simp [Memory.write, Memory.read?, h1, h]
    · by_cases h2 : a = k
      · subst h2; simp [Memory.write, Memory.read?, h]
      · by_cases h3 : b = k <;> simp [Memory.write, Memory.read?, h1, h2, h3, ih]

theorem read_write (m : Memory) (a b : Nat) (v : Byte) :
    Memory.read? (Memory.write m a v) b = if b = a then some v else Memory.read? m b := by
  by_cases h : b = a
  · subst h; simp
  · simp [h, read_write_other]

theorem risingFrom_mono {lo lo' : Nat} {m : Memory} (h : lo' ≤ lo) (hm : Memory.risingFrom lo m = true) :
    Memory.risingFrom lo' m = true := by
  cases m with
  | nil => rfl
  | cons c m =>
    simp only [Memory.risingFrom, Bool.and_eq_true, decide_eq_true_eq] at hm ⊢
    exact ⟨by omega, hm.2⟩

theorem risingFrom_write {lo : Nat} {m : Memory} (a : Nat) (v : Byte) (hlo : lo ≤ a)
    (hm : Memory.risingFrom lo m = true) : Memory.risingFrom lo (Memory.write m a v) = true := by
  induction m generalizing lo with
  | nil => simp [Memory.write, Memory.risingFrom, hlo]
  | cons c m ih =>
    obtain ⟨b, w⟩ := c
    simp only [Memory.risingFrom, Bool.and_eq_true, decide_eq_true_eq] at hm
    by_cases h1 : a < b
    · simp [Memory.write, Memory.risingFrom, h1, hlo, hm.2]
    · by_cases h2 : a = b
      · subst h2; simp [Memory.write, Memory.risingFrom, hm]
      · simp [Memory.write, Memory.risingFrom, h1, h2, hm.1, ih (lo := b + 1) (by omega) hm.2]

/-- A write keeps the canonical form. -/
theorem wf_write (m : Memory) (a : Nat) (v : Byte) (h : Memory.wf m = true) :
    Memory.wf (Memory.write m a v) = true := risingFrom_write a v (Nat.zero_le a) h

/-- A write of a slot in range lists no slot out of range. -/
theorem bounded_write {m : Memory} {n a : Nat} {v : Byte} (ha : a < n)
    (h : ∀ b w, Memory.read? m b = some w → b < n) :
    ∀ b w, Memory.read? (Memory.write m a v) b = some w → b < n := by
  intro b w hb
  rw [read_write] at hb
  by_cases hba : b = a
  · omega
  · exact h b w (by simpa [hba] using hb)

end Sys2Proof.Laws
end

