-- ==== Sys2Proof/Laws/State.lean ====
section
/-! SUPPORT. One lemma per field per update, so that no later proof unfolds a record update. -/

namespace Sys2Proof.Laws

open Sys2Proof.Machine

/-! ### `settleEdge` -/

@[simp] theorem settleEdge_cfg (s : State) : s.settleEdge.cfg = s.cfg := rfl
@[simp] theorem settleEdge_status (s : State) : s.settleEdge.status = s.status := rfl
@[simp] theorem settleEdge_inflight (s : State) : s.settleEdge.inflight = s.inflight := rfl
@[simp] theorem settleEdge_tx (s : State) : s.settleEdge.tx = s.tx := rfl
@[simp] theorem settleEdge_rx (s : State) : s.settleEdge.rx = s.rx := rfl
@[simp] theorem settleEdge_timer (s : State) : s.settleEdge.timer = s.timer := rfl
@[simp] theorem settleEdge_shift (s : State) : s.settleEdge.shift = s.shift := rfl
@[simp] theorem settleEdge_edge (s : State) : s.settleEdge.edge = { s.edge with flag := s.edge.flag || (s.line != s.edge.lastLevel), lastLevel := s.line } := rfl
@[simp] theorem settleEdge_extLevel (s : State) : s.settleEdge.extLevel = s.extLevel := rfl
@[simp] theorem settleEdge_gie (s : State) : s.settleEdge.gie = s.gie := rfl
@[simp] theorem settleEdge_mainPc (s : State) : s.settleEdge.mainPc = s.mainPc := rfl
@[simp] theorem settleEdge_ret (s : State) : s.settleEdge.ret = s.ret := rfl
@[simp] theorem settleEdge_faults (s : State) : s.settleEdge.faults = s.faults := rfl
@[simp] theorem settleEdge_refused (s : State) : s.settleEdge.refused = s.refused := rfl
@[simp] theorem settleEdge_time (s : State) : s.settleEdge.time = s.time := rfl
@[simp] theorem settleEdge_draws (s : State) : s.settleEdge.draws = s.draws := rfl
@[simp] theorem settleEdge_inbox (s : State) : s.settleEdge.inbox = s.inbox := rfl
@[simp] theorem settleEdge_sched (s : State) : s.settleEdge.sched = s.sched := rfl

/-! ### `recordFault` -/

@[simp] theorem recordFault_cfg (s : State) (c : FaultCode) : (s.recordFault c).cfg = s.cfg := rfl
@[simp] theorem recordFault_status (s : State) (c : FaultCode) : (s.recordFault c).status = s.status := rfl
@[simp] theorem recordFault_inflight (s : State) (c : FaultCode) : (s.recordFault c).inflight = s.inflight := rfl
@[simp] theorem recordFault_tx (s : State) (c : FaultCode) : (s.recordFault c).tx = s.tx := rfl
@[simp] theorem recordFault_rx (s : State) (c : FaultCode) : (s.recordFault c).rx = s.rx := rfl
@[simp] theorem recordFault_timer (s : State) (c : FaultCode) : (s.recordFault c).timer = s.timer := rfl
@[simp] theorem recordFault_shift (s : State) (c : FaultCode) : (s.recordFault c).shift = s.shift := rfl
@[simp] theorem recordFault_edge (s : State) (c : FaultCode) : (s.recordFault c).edge = s.edge := rfl
@[simp] theorem recordFault_extLevel (s : State) (c : FaultCode) : (s.recordFault c).extLevel = s.extLevel := rfl
@[simp] theorem recordFault_gie (s : State) (c : FaultCode) : (s.recordFault c).gie = s.gie := rfl
@[simp] theorem recordFault_mainPc (s : State) (c : FaultCode) : (s.recordFault c).mainPc = s.mainPc := rfl
@[simp] theorem recordFault_ret (s : State) (c : FaultCode) : (s.recordFault c).ret = s.ret := rfl
@[simp] theorem recordFault_faults (s : State) (c : FaultCode) : (s.recordFault c).faults = insertCode c s.faults := rfl
@[simp] theorem recordFault_refused (s : State) (c : FaultCode) : (s.recordFault c).refused = s.refused := rfl
@[simp] theorem recordFault_time (s : State) (c : FaultCode) : (s.recordFault c).time = s.time := rfl
@[simp] theorem recordFault_draws (s : State) (c : FaultCode) : (s.recordFault c).draws = s.draws := rfl
@[simp] theorem recordFault_inbox (s : State) (c : FaultCode) : (s.recordFault c).inbox = s.inbox := rfl
@[simp] theorem recordFault_sched (s : State) (c : FaultCode) : (s.recordFault c).sched = s.sched := rfl

/-! ### `complete` -/

@[simp] theorem complete_cfg (s : State) (v : Ret) : (s.complete v).cfg = s.cfg := rfl
@[simp] theorem complete_status (s : State) (v : Ret) : (s.complete v).status = s.status := rfl
@[simp] theorem complete_inflight (s : State) (v : Ret) : (s.complete v).inflight = s.inflight := rfl
@[simp] theorem complete_tx (s : State) (v : Ret) : (s.complete v).tx = s.tx := rfl
@[simp] theorem complete_rx (s : State) (v : Ret) : (s.complete v).rx = s.rx := rfl
@[simp] theorem complete_timer (s : State) (v : Ret) : (s.complete v).timer = s.timer := rfl
@[simp] theorem complete_shift (s : State) (v : Ret) : (s.complete v).shift = s.shift := rfl
@[simp] theorem complete_edge (s : State) (v : Ret) : (s.complete v).edge = s.edge := rfl
@[simp] theorem complete_extLevel (s : State) (v : Ret) : (s.complete v).extLevel = s.extLevel := rfl
@[simp] theorem complete_gie (s : State) (v : Ret) : (s.complete v).gie = s.gie := rfl
@[simp] theorem complete_mainPc (s : State) (v : Ret) : (s.complete v).mainPc = .ready := rfl
@[simp] theorem complete_ret (s : State) (v : Ret) : (s.complete v).ret = v := rfl
@[simp] theorem complete_faults (s : State) (v : Ret) : (s.complete v).faults = s.faults := rfl
@[simp] theorem complete_refused (s : State) (v : Ret) : (s.complete v).refused = s.refused := rfl
@[simp] theorem complete_time (s : State) (v : Ret) : (s.complete v).time = s.time := rfl
@[simp] theorem complete_draws (s : State) (v : Ret) : (s.complete v).draws = s.draws := rfl
@[simp] theorem complete_inbox (s : State) (v : Ret) : (s.complete v).inbox = s.inbox := rfl
@[simp] theorem complete_sched (s : State) (v : Ret) : (s.complete v).sched = s.sched := rfl

/-! ### `deliver` -/

@[simp] theorem deliver_cfg (s : State) (v : Ret) : (s.deliver v).cfg = s.cfg := rfl
@[simp] theorem deliver_status (s : State) (v : Ret) : (s.deliver v).status = s.status := rfl
@[simp] theorem deliver_inflight (s : State) (v : Ret) : (s.deliver v).inflight = s.inflight := rfl
@[simp] theorem deliver_tx (s : State) (v : Ret) : (s.deliver v).tx = s.tx := rfl
@[simp] theorem deliver_rx (s : State) (v : Ret) : (s.deliver v).rx = s.rx := rfl
@[simp] theorem deliver_timer (s : State) (v : Ret) : (s.deliver v).timer = s.timer := rfl
@[simp] theorem deliver_shift (s : State) (v : Ret) : (s.deliver v).shift = s.shift := rfl
@[simp] theorem deliver_edge (s : State) (v : Ret) : (s.deliver v).edge = s.edge := rfl
@[simp] theorem deliver_extLevel (s : State) (v : Ret) : (s.deliver v).extLevel = s.extLevel := rfl
@[simp] theorem deliver_gie (s : State) (v : Ret) : (s.deliver v).gie = s.gie := rfl
@[simp] theorem deliver_mainPc (s : State) (v : Ret) : (s.deliver v).mainPc = s.mainPc := rfl
@[simp] theorem deliver_ret (s : State) (v : Ret) : (s.deliver v).ret = v := rfl
@[simp] theorem deliver_faults (s : State) (v : Ret) : (s.deliver v).faults = s.faults := rfl
@[simp] theorem deliver_refused (s : State) (v : Ret) : (s.deliver v).refused = s.refused := rfl
@[simp] theorem deliver_time (s : State) (v : Ret) : (s.deliver v).time = s.time := rfl
@[simp] theorem deliver_draws (s : State) (v : Ret) : (s.deliver v).draws = s.draws := rfl
@[simp] theorem deliver_inbox (s : State) (v : Ret) : (s.deliver v).inbox = s.inbox := rfl
@[simp] theorem deliver_sched (s : State) (v : Ret) : (s.deliver v).sched = s.sched := rfl

/-! ### `enterEdge` -/

@[simp] theorem enterEdge_cfg (s : State) : (s.enterHandler .edge).cfg = s.cfg := rfl
@[simp] theorem enterEdge_status (s : State) : (s.enterHandler .edge).status = s.status := rfl
@[simp] theorem enterEdge_inflight (s : State) : (s.enterHandler .edge).inflight = s.inflight := rfl
@[simp] theorem enterEdge_tx (s : State) : (s.enterHandler .edge).tx = s.tx := rfl
@[simp] theorem enterEdge_rx (s : State) : (s.enterHandler .edge).rx = s.rx := rfl
@[simp] theorem enterEdge_timer (s : State) : (s.enterHandler .edge).timer = s.timer := rfl
@[simp] theorem enterEdge_shift (s : State) : (s.enterHandler .edge).shift = s.shift := rfl
@[simp] theorem enterEdge_edge (s : State) : (s.enterHandler .edge).edge = { s.edge with flag := false } := rfl
@[simp] theorem enterEdge_extLevel (s : State) : (s.enterHandler .edge).extLevel = s.extLevel := rfl
@[simp] theorem enterEdge_gie (s : State) : (s.enterHandler .edge).gie = s.gie := rfl
@[simp] theorem enterEdge_mainPc (s : State) : (s.enterHandler .edge).mainPc = s.mainPc := rfl
@[simp] theorem enterEdge_ret (s : State) : (s.enterHandler .edge).ret = s.ret := rfl
@[simp] theorem enterEdge_faults (s : State) : (s.enterHandler .edge).faults = s.faults := rfl
@[simp] theorem enterEdge_refused (s : State) : (s.enterHandler .edge).refused = s.refused := rfl
@[simp] theorem enterEdge_time (s : State) : (s.enterHandler .edge).time = s.time := rfl
@[simp] theorem enterEdge_draws (s : State) : (s.enterHandler .edge).draws = s.draws := rfl
@[simp] theorem enterEdge_inbox (s : State) : (s.enterHandler .edge).inbox = s.inbox := rfl
@[simp] theorem enterEdge_sched (s : State) : (s.enterHandler .edge).sched = s.sched := rfl

/-! ### `enterTimerOvf` -/

@[simp] theorem enterTimerOvf_cfg (s : State) : (s.enterHandler .timerOvf).cfg = s.cfg := rfl
@[simp] theorem enterTimerOvf_status (s : State) : (s.enterHandler .timerOvf).status = s.status := rfl
@[simp] theorem enterTimerOvf_inflight (s : State) : (s.enterHandler .timerOvf).inflight = s.inflight := rfl
@[simp] theorem enterTimerOvf_tx (s : State) : (s.enterHandler .timerOvf).tx = s.tx := rfl
@[simp] theorem enterTimerOvf_rx (s : State) : (s.enterHandler .timerOvf).rx = s.rx := rfl
@[simp] theorem enterTimerOvf_timer (s : State) : (s.enterHandler .timerOvf).timer = { s.timer with ovfFlag := false } := rfl
@[simp] theorem enterTimerOvf_shift (s : State) : (s.enterHandler .timerOvf).shift = s.shift := rfl
@[simp] theorem enterTimerOvf_edge (s : State) : (s.enterHandler .timerOvf).edge = s.edge := rfl
@[simp] theorem enterTimerOvf_extLevel (s : State) : (s.enterHandler .timerOvf).extLevel = s.extLevel := rfl
@[simp] theorem enterTimerOvf_gie (s : State) : (s.enterHandler .timerOvf).gie = s.gie := rfl
@[simp] theorem enterTimerOvf_mainPc (s : State) : (s.enterHandler .timerOvf).mainPc = s.mainPc := rfl
@[simp] theorem enterTimerOvf_ret (s : State) : (s.enterHandler .timerOvf).ret = s.ret := rfl
@[simp] theorem enterTimerOvf_faults (s : State) : (s.enterHandler .timerOvf).faults = s.faults := rfl
@[simp] theorem enterTimerOvf_refused (s : State) : (s.enterHandler .timerOvf).refused = s.refused := rfl
@[simp] theorem enterTimerOvf_time (s : State) : (s.enterHandler .timerOvf).time = s.time := rfl
@[simp] theorem enterTimerOvf_draws (s : State) : (s.enterHandler .timerOvf).draws = s.draws := rfl
@[simp] theorem enterTimerOvf_inbox (s : State) : (s.enterHandler .timerOvf).inbox = s.inbox := rfl
@[simp] theorem enterTimerOvf_sched (s : State) : (s.enterHandler .timerOvf).sched = s.sched := rfl

/-! ### `enterSrOvf` -/

@[simp] theorem enterSrOvf_cfg (s : State) : (s.enterHandler .srOvf).cfg = s.cfg := rfl
@[simp] theorem enterSrOvf_status (s : State) : (s.enterHandler .srOvf).status = s.status := rfl
@[simp] theorem enterSrOvf_inflight (s : State) : (s.enterHandler .srOvf).inflight = s.inflight := rfl
@[simp] theorem enterSrOvf_tx (s : State) : (s.enterHandler .srOvf).tx = s.tx := rfl
@[simp] theorem enterSrOvf_rx (s : State) : (s.enterHandler .srOvf).rx = s.rx := rfl
@[simp] theorem enterSrOvf_timer (s : State) : (s.enterHandler .srOvf).timer = s.timer := rfl
@[simp] theorem enterSrOvf_shift (s : State) : (s.enterHandler .srOvf).shift = { s.shift with ovfFlag := false } := rfl
@[simp] theorem enterSrOvf_edge (s : State) : (s.enterHandler .srOvf).edge = s.edge := rfl
@[simp] theorem enterSrOvf_extLevel (s : State) : (s.enterHandler .srOvf).extLevel = s.extLevel := rfl
@[simp] theorem enterSrOvf_gie (s : State) : (s.enterHandler .srOvf).gie = s.gie := rfl
@[simp] theorem enterSrOvf_mainPc (s : State) : (s.enterHandler .srOvf).mainPc = s.mainPc := rfl
@[simp] theorem enterSrOvf_ret (s : State) : (s.enterHandler .srOvf).ret = s.ret := rfl
@[simp] theorem enterSrOvf_faults (s : State) : (s.enterHandler .srOvf).faults = s.faults := rfl
@[simp] theorem enterSrOvf_refused (s : State) : (s.enterHandler .srOvf).refused = s.refused := rfl
@[simp] theorem enterSrOvf_time (s : State) : (s.enterHandler .srOvf).time = s.time := rfl
@[simp] theorem enterSrOvf_draws (s : State) : (s.enterHandler .srOvf).draws = s.draws := rfl
@[simp] theorem enterSrOvf_inbox (s : State) : (s.enterHandler .srOvf).inbox = s.inbox := rfl
@[simp] theorem enterSrOvf_sched (s : State) : (s.enterHandler .srOvf).sched = s.sched := rfl

/-! ### `timerWrite` -/

@[simp] theorem timerWrite_cfg (v : Byte) (s : State) : (timerWrite v s).cfg = s.cfg := rfl
@[simp] theorem timerWrite_status (v : Byte) (s : State) : (timerWrite v s).status = s.status := rfl
@[simp] theorem timerWrite_inflight (v : Byte) (s : State) : (timerWrite v s).inflight = s.inflight := rfl
@[simp] theorem timerWrite_tx (v : Byte) (s : State) : (timerWrite v s).tx = s.tx := rfl
@[simp] theorem timerWrite_rx (v : Byte) (s : State) : (timerWrite v s).rx = s.rx := rfl
@[simp] theorem timerWrite_timer (v : Byte) (s : State) : (timerWrite v s).timer = { s.timer with tcnt := v } := rfl
@[simp] theorem timerWrite_shift (v : Byte) (s : State) : (timerWrite v s).shift = s.shift := rfl
@[simp] theorem timerWrite_edge (v : Byte) (s : State) : (timerWrite v s).edge = s.edge := rfl
@[simp] theorem timerWrite_extLevel (v : Byte) (s : State) : (timerWrite v s).extLevel = s.extLevel := rfl
@[simp] theorem timerWrite_gie (v : Byte) (s : State) : (timerWrite v s).gie = s.gie := rfl
@[simp] theorem timerWrite_mainPc (v : Byte) (s : State) : (timerWrite v s).mainPc = s.mainPc := rfl
@[simp] theorem timerWrite_ret (v : Byte) (s : State) : (timerWrite v s).ret = s.ret := rfl
@[simp] theorem timerWrite_faults (v : Byte) (s : State) : (timerWrite v s).faults = s.faults := rfl
@[simp] theorem timerWrite_refused (v : Byte) (s : State) : (timerWrite v s).refused = s.refused := rfl
@[simp] theorem timerWrite_time (v : Byte) (s : State) : (timerWrite v s).time = s.time := rfl
@[simp] theorem timerWrite_draws (v : Byte) (s : State) : (timerWrite v s).draws = s.draws := rfl
@[simp] theorem timerWrite_inbox (v : Byte) (s : State) : (timerWrite v s).inbox = s.inbox := rfl
@[simp] theorem timerWrite_sched (v : Byte) (s : State) : (timerWrite v s).sched = s.sched := rfl

/-! ### `timerAdd` -/

@[simp] theorem timerAdd_cfg (v : Byte) (s : State) : (timerAdd v s).cfg = s.cfg := rfl
@[simp] theorem timerAdd_status (v : Byte) (s : State) : (timerAdd v s).status = s.status := rfl
@[simp] theorem timerAdd_inflight (v : Byte) (s : State) : (timerAdd v s).inflight = s.inflight := rfl
@[simp] theorem timerAdd_tx (v : Byte) (s : State) : (timerAdd v s).tx = s.tx := rfl
@[simp] theorem timerAdd_rx (v : Byte) (s : State) : (timerAdd v s).rx = s.rx := rfl
@[simp] theorem timerAdd_timer (v : Byte) (s : State) : (timerAdd v s).timer = { s.timer with tcnt := s.timer.tcnt + v } := rfl
@[simp] theorem timerAdd_shift (v : Byte) (s : State) : (timerAdd v s).shift = s.shift := rfl
@[simp] theorem timerAdd_edge (v : Byte) (s : State) : (timerAdd v s).edge = s.edge := rfl
@[simp] theorem timerAdd_extLevel (v : Byte) (s : State) : (timerAdd v s).extLevel = s.extLevel := rfl
@[simp] theorem timerAdd_gie (v : Byte) (s : State) : (timerAdd v s).gie = s.gie := rfl
@[simp] theorem timerAdd_mainPc (v : Byte) (s : State) : (timerAdd v s).mainPc = s.mainPc := rfl
@[simp] theorem timerAdd_ret (v : Byte) (s : State) : (timerAdd v s).ret = s.ret := rfl
@[simp] theorem timerAdd_faults (v : Byte) (s : State) : (timerAdd v s).faults = s.faults := rfl
@[simp] theorem timerAdd_refused (v : Byte) (s : State) : (timerAdd v s).refused = s.refused := rfl
@[simp] theorem timerAdd_time (v : Byte) (s : State) : (timerAdd v s).time = s.time := rfl
@[simp] theorem timerAdd_draws (v : Byte) (s : State) : (timerAdd v s).draws = s.draws := rfl
@[simp] theorem timerAdd_inbox (v : Byte) (s : State) : (timerAdd v s).inbox = s.inbox := rfl
@[simp] theorem timerAdd_sched (v : Byte) (s : State) : (timerAdd v s).sched = s.sched := rfl

/-! ### `timerStart` -/

@[simp] theorem timerStart_cfg (s : State) : (timerStart s).cfg = s.cfg := rfl
@[simp] theorem timerStart_status (s : State) : (timerStart s).status = s.status := rfl
@[simp] theorem timerStart_inflight (s : State) : (timerStart s).inflight = s.inflight := rfl
@[simp] theorem timerStart_tx (s : State) : (timerStart s).tx = s.tx := rfl
@[simp] theorem timerStart_rx (s : State) : (timerStart s).rx = s.rx := rfl
@[simp] theorem timerStart_timer (s : State) : (timerStart s).timer = { s.timer with run := true, ovfIe := true, ovfFlag := false } := rfl
@[simp] theorem timerStart_shift (s : State) : (timerStart s).shift = s.shift := rfl
@[simp] theorem timerStart_edge (s : State) : (timerStart s).edge = s.edge := rfl
@[simp] theorem timerStart_extLevel (s : State) : (timerStart s).extLevel = s.extLevel := rfl
@[simp] theorem timerStart_gie (s : State) : (timerStart s).gie = s.gie := rfl
@[simp] theorem timerStart_mainPc (s : State) : (timerStart s).mainPc = s.mainPc := rfl
@[simp] theorem timerStart_ret (s : State) : (timerStart s).ret = s.ret := rfl
@[simp] theorem timerStart_faults (s : State) : (timerStart s).faults = s.faults := rfl
@[simp] theorem timerStart_refused (s : State) : (timerStart s).refused = s.refused := rfl
@[simp] theorem timerStart_time (s : State) : (timerStart s).time = s.time := rfl
@[simp] theorem timerStart_draws (s : State) : (timerStart s).draws = s.draws := rfl
@[simp] theorem timerStart_inbox (s : State) : (timerStart s).inbox = s.inbox := rfl
@[simp] theorem timerStart_sched (s : State) : (timerStart s).sched = s.sched := rfl

/-! ### `timerStop` -/

@[simp] theorem timerStop_cfg (s : State) : (timerStop s).cfg = s.cfg := rfl
@[simp] theorem timerStop_status (s : State) : (timerStop s).status = s.status := rfl
@[simp] theorem timerStop_inflight (s : State) : (timerStop s).inflight = s.inflight := rfl
@[simp] theorem timerStop_tx (s : State) : (timerStop s).tx = s.tx := rfl
@[simp] theorem timerStop_rx (s : State) : (timerStop s).rx = s.rx := rfl
@[simp] theorem timerStop_timer (s : State) : (timerStop s).timer = { s.timer with run := false, ovfIe := false, ovfFlag := false } := rfl
@[simp] theorem timerStop_shift (s : State) : (timerStop s).shift = s.shift := rfl
@[simp] theorem timerStop_edge (s : State) : (timerStop s).edge = s.edge := rfl
@[simp] theorem timerStop_extLevel (s : State) : (timerStop s).extLevel = s.extLevel := rfl
@[simp] theorem timerStop_gie (s : State) : (timerStop s).gie = s.gie := rfl
@[simp] theorem timerStop_mainPc (s : State) : (timerStop s).mainPc = s.mainPc := rfl
@[simp] theorem timerStop_ret (s : State) : (timerStop s).ret = s.ret := rfl
@[simp] theorem timerStop_faults (s : State) : (timerStop s).faults = s.faults := rfl
@[simp] theorem timerStop_refused (s : State) : (timerStop s).refused = s.refused := rfl
@[simp] theorem timerStop_time (s : State) : (timerStop s).time = s.time := rfl
@[simp] theorem timerStop_draws (s : State) : (timerStop s).draws = s.draws := rfl
@[simp] theorem timerStop_inbox (s : State) : (timerStop s).inbox = s.inbox := rfl
@[simp] theorem timerStop_sched (s : State) : (timerStop s).sched = s.sched := rfl

/-! ### `srConfigure` -/

@[simp] theorem srConfigure_cfg (m : SrMode) (k : ClkSource) (s : State) : (srConfigure m k s).cfg = s.cfg := rfl
@[simp] theorem srConfigure_status (m : SrMode) (k : ClkSource) (s : State) : (srConfigure m k s).status = s.status := rfl
@[simp] theorem srConfigure_inflight (m : SrMode) (k : ClkSource) (s : State) : (srConfigure m k s).inflight = s.inflight := rfl
@[simp] theorem srConfigure_tx (m : SrMode) (k : ClkSource) (s : State) : (srConfigure m k s).tx = s.tx := rfl
@[simp] theorem srConfigure_rx (m : SrMode) (k : ClkSource) (s : State) : (srConfigure m k s).rx = s.rx := rfl
@[simp] theorem srConfigure_timer (m : SrMode) (k : ClkSource) (s : State) : (srConfigure m k s).timer = s.timer := rfl
@[simp] theorem srConfigure_shift (m : SrMode) (k : ClkSource) (s : State) : (srConfigure m k s).shift = { s.shift with mode := m, clk := k } := rfl
@[simp] theorem srConfigure_edge (m : SrMode) (k : ClkSource) (s : State) : (srConfigure m k s).edge = s.edge := rfl
@[simp] theorem srConfigure_extLevel (m : SrMode) (k : ClkSource) (s : State) : (srConfigure m k s).extLevel = s.extLevel := rfl
@[simp] theorem srConfigure_gie (m : SrMode) (k : ClkSource) (s : State) : (srConfigure m k s).gie = s.gie := rfl
@[simp] theorem srConfigure_mainPc (m : SrMode) (k : ClkSource) (s : State) : (srConfigure m k s).mainPc = s.mainPc := rfl
@[simp] theorem srConfigure_ret (m : SrMode) (k : ClkSource) (s : State) : (srConfigure m k s).ret = s.ret := rfl
@[simp] theorem srConfigure_faults (m : SrMode) (k : ClkSource) (s : State) : (srConfigure m k s).faults = s.faults := rfl
@[simp] theorem srConfigure_refused (m : SrMode) (k : ClkSource) (s : State) : (srConfigure m k s).refused = s.refused := rfl
@[simp] theorem srConfigure_time (m : SrMode) (k : ClkSource) (s : State) : (srConfigure m k s).time = s.time := rfl
@[simp] theorem srConfigure_draws (m : SrMode) (k : ClkSource) (s : State) : (srConfigure m k s).draws = s.draws := rfl
@[simp] theorem srConfigure_inbox (m : SrMode) (k : ClkSource) (s : State) : (srConfigure m k s).inbox = s.inbox := rfl
@[simp] theorem srConfigure_sched (m : SrMode) (k : ClkSource) (s : State) : (srConfigure m k s).sched = s.sched := rfl

/-! ### `srSetSeed` -/

@[simp] theorem srSetSeed_cfg (n : Nibble) (s : State) : (srSetSeed n s).cfg = s.cfg := rfl
@[simp] theorem srSetSeed_status (n : Nibble) (s : State) : (srSetSeed n s).status = s.status := rfl
@[simp] theorem srSetSeed_inflight (n : Nibble) (s : State) : (srSetSeed n s).inflight = s.inflight := rfl
@[simp] theorem srSetSeed_tx (n : Nibble) (s : State) : (srSetSeed n s).tx = s.tx := rfl
@[simp] theorem srSetSeed_rx (n : Nibble) (s : State) : (srSetSeed n s).rx = s.rx := rfl
@[simp] theorem srSetSeed_timer (n : Nibble) (s : State) : (srSetSeed n s).timer = s.timer := rfl
@[simp] theorem srSetSeed_shift (n : Nibble) (s : State) : (srSetSeed n s).shift = { s.shift with cnt := n } := rfl
@[simp] theorem srSetSeed_edge (n : Nibble) (s : State) : (srSetSeed n s).edge = s.edge := rfl
@[simp] theorem srSetSeed_extLevel (n : Nibble) (s : State) : (srSetSeed n s).extLevel = s.extLevel := rfl
@[simp] theorem srSetSeed_gie (n : Nibble) (s : State) : (srSetSeed n s).gie = s.gie := rfl
@[simp] theorem srSetSeed_mainPc (n : Nibble) (s : State) : (srSetSeed n s).mainPc = s.mainPc := rfl
@[simp] theorem srSetSeed_ret (n : Nibble) (s : State) : (srSetSeed n s).ret = s.ret := rfl
@[simp] theorem srSetSeed_faults (n : Nibble) (s : State) : (srSetSeed n s).faults = s.faults := rfl
@[simp] theorem srSetSeed_refused (n : Nibble) (s : State) : (srSetSeed n s).refused = s.refused := rfl
@[simp] theorem srSetSeed_time (n : Nibble) (s : State) : (srSetSeed n s).time = s.time := rfl
@[simp] theorem srSetSeed_draws (n : Nibble) (s : State) : (srSetSeed n s).draws = s.draws := rfl
@[simp] theorem srSetSeed_inbox (n : Nibble) (s : State) : (srSetSeed n s).inbox = s.inbox := rfl
@[simp] theorem srSetSeed_sched (n : Nibble) (s : State) : (srSetSeed n s).sched = s.sched := rfl

/-! ### `srWriteData` -/

@[simp] theorem srWriteData_cfg (v : Byte) (s : State) : (srWriteData v s).cfg = s.cfg := rfl
@[simp] theorem srWriteData_status (v : Byte) (s : State) : (srWriteData v s).status = s.status := rfl
@[simp] theorem srWriteData_inflight (v : Byte) (s : State) : (srWriteData v s).inflight = s.inflight := rfl
@[simp] theorem srWriteData_tx (v : Byte) (s : State) : (srWriteData v s).tx = s.tx := rfl
@[simp] theorem srWriteData_rx (v : Byte) (s : State) : (srWriteData v s).rx = s.rx := rfl
@[simp] theorem srWriteData_timer (v : Byte) (s : State) : (srWriteData v s).timer = s.timer := rfl
@[simp] theorem srWriteData_shift (v : Byte) (s : State) : (srWriteData v s).shift = { s.shift with sr := v } := rfl
@[simp] theorem srWriteData_edge (v : Byte) (s : State) : (srWriteData v s).edge = s.edge := rfl
@[simp] theorem srWriteData_extLevel (v : Byte) (s : State) : (srWriteData v s).extLevel = s.extLevel := rfl
@[simp] theorem srWriteData_gie (v : Byte) (s : State) : (srWriteData v s).gie = s.gie := rfl
@[simp] theorem srWriteData_mainPc (v : Byte) (s : State) : (srWriteData v s).mainPc = s.mainPc := rfl
@[simp] theorem srWriteData_ret (v : Byte) (s : State) : (srWriteData v s).ret = s.ret := rfl
@[simp] theorem srWriteData_faults (v : Byte) (s : State) : (srWriteData v s).faults = s.faults := rfl
@[simp] theorem srWriteData_refused (v : Byte) (s : State) : (srWriteData v s).refused = s.refused := rfl
@[simp] theorem srWriteData_time (v : Byte) (s : State) : (srWriteData v s).time = s.time := rfl
@[simp] theorem srWriteData_draws (v : Byte) (s : State) : (srWriteData v s).draws = s.draws := rfl
@[simp] theorem srWriteData_inbox (v : Byte) (s : State) : (srWriteData v s).inbox = s.inbox := rfl
@[simp] theorem srWriteData_sched (v : Byte) (s : State) : (srWriteData v s).sched = s.sched := rfl

/-! ### `srEnableOvfIrq` -/

@[simp] theorem srEnableOvfIrq_cfg (e : Bool) (s : State) : (srEnableOvfIrq e s).cfg = s.cfg := rfl
@[simp] theorem srEnableOvfIrq_status (e : Bool) (s : State) : (srEnableOvfIrq e s).status = s.status := rfl
@[simp] theorem srEnableOvfIrq_inflight (e : Bool) (s : State) : (srEnableOvfIrq e s).inflight = s.inflight := rfl
@[simp] theorem srEnableOvfIrq_tx (e : Bool) (s : State) : (srEnableOvfIrq e s).tx = s.tx := rfl
@[simp] theorem srEnableOvfIrq_rx (e : Bool) (s : State) : (srEnableOvfIrq e s).rx = s.rx := rfl
@[simp] theorem srEnableOvfIrq_timer (e : Bool) (s : State) : (srEnableOvfIrq e s).timer = s.timer := rfl
@[simp] theorem srEnableOvfIrq_shift (e : Bool) (s : State) : (srEnableOvfIrq e s).shift = { s.shift with ovfIe := e } := rfl
@[simp] theorem srEnableOvfIrq_edge (e : Bool) (s : State) : (srEnableOvfIrq e s).edge = s.edge := rfl
@[simp] theorem srEnableOvfIrq_extLevel (e : Bool) (s : State) : (srEnableOvfIrq e s).extLevel = s.extLevel := rfl
@[simp] theorem srEnableOvfIrq_gie (e : Bool) (s : State) : (srEnableOvfIrq e s).gie = s.gie := rfl
@[simp] theorem srEnableOvfIrq_mainPc (e : Bool) (s : State) : (srEnableOvfIrq e s).mainPc = s.mainPc := rfl
@[simp] theorem srEnableOvfIrq_ret (e : Bool) (s : State) : (srEnableOvfIrq e s).ret = s.ret := rfl
@[simp] theorem srEnableOvfIrq_faults (e : Bool) (s : State) : (srEnableOvfIrq e s).faults = s.faults := rfl
@[simp] theorem srEnableOvfIrq_refused (e : Bool) (s : State) : (srEnableOvfIrq e s).refused = s.refused := rfl
@[simp] theorem srEnableOvfIrq_time (e : Bool) (s : State) : (srEnableOvfIrq e s).time = s.time := rfl
@[simp] theorem srEnableOvfIrq_draws (e : Bool) (s : State) : (srEnableOvfIrq e s).draws = s.draws := rfl
@[simp] theorem srEnableOvfIrq_inbox (e : Bool) (s : State) : (srEnableOvfIrq e s).inbox = s.inbox := rfl
@[simp] theorem srEnableOvfIrq_sched (e : Bool) (s : State) : (srEnableOvfIrq e s).sched = s.sched := rfl

/-! ### `srClearFlag` -/

@[simp] theorem srClearFlag_cfg (s : State) : (srClearFlag s).cfg = s.cfg := rfl
@[simp] theorem srClearFlag_status (s : State) : (srClearFlag s).status = s.status := rfl
@[simp] theorem srClearFlag_inflight (s : State) : (srClearFlag s).inflight = s.inflight := rfl
@[simp] theorem srClearFlag_tx (s : State) : (srClearFlag s).tx = s.tx := rfl
@[simp] theorem srClearFlag_rx (s : State) : (srClearFlag s).rx = s.rx := rfl
@[simp] theorem srClearFlag_timer (s : State) : (srClearFlag s).timer = s.timer := rfl
@[simp] theorem srClearFlag_shift (s : State) : (srClearFlag s).shift = { s.shift with ovfFlag := false } := rfl
@[simp] theorem srClearFlag_edge (s : State) : (srClearFlag s).edge = s.edge := rfl
@[simp] theorem srClearFlag_extLevel (s : State) : (srClearFlag s).extLevel = s.extLevel := rfl
@[simp] theorem srClearFlag_gie (s : State) : (srClearFlag s).gie = s.gie := rfl
@[simp] theorem srClearFlag_mainPc (s : State) : (srClearFlag s).mainPc = s.mainPc := rfl
@[simp] theorem srClearFlag_ret (s : State) : (srClearFlag s).ret = s.ret := rfl
@[simp] theorem srClearFlag_faults (s : State) : (srClearFlag s).faults = s.faults := rfl
@[simp] theorem srClearFlag_refused (s : State) : (srClearFlag s).refused = s.refused := rfl
@[simp] theorem srClearFlag_time (s : State) : (srClearFlag s).time = s.time := rfl
@[simp] theorem srClearFlag_draws (s : State) : (srClearFlag s).draws = s.draws := rfl
@[simp] theorem srClearFlag_inbox (s : State) : (srClearFlag s).inbox = s.inbox := rfl
@[simp] theorem srClearFlag_sched (s : State) : (srClearFlag s).sched = s.sched := rfl

/-! ### `edgeArm` -/

@[simp] theorem edgeArm_cfg (s : State) : (edgeArm s).cfg = s.cfg := rfl
@[simp] theorem edgeArm_status (s : State) : (edgeArm s).status = s.status := rfl
@[simp] theorem edgeArm_inflight (s : State) : (edgeArm s).inflight = s.inflight := rfl
@[simp] theorem edgeArm_tx (s : State) : (edgeArm s).tx = s.tx := rfl
@[simp] theorem edgeArm_rx (s : State) : (edgeArm s).rx = s.rx := rfl
@[simp] theorem edgeArm_timer (s : State) : (edgeArm s).timer = s.timer := rfl
@[simp] theorem edgeArm_shift (s : State) : (edgeArm s).shift = s.shift := rfl
@[simp] theorem edgeArm_edge (s : State) : (edgeArm s).edge = { ie := true, flag := false, lastLevel := s.line } := rfl
@[simp] theorem edgeArm_extLevel (s : State) : (edgeArm s).extLevel = s.extLevel := rfl
@[simp] theorem edgeArm_gie (s : State) : (edgeArm s).gie = s.gie := rfl
@[simp] theorem edgeArm_mainPc (s : State) : (edgeArm s).mainPc = s.mainPc := rfl
@[simp] theorem edgeArm_ret (s : State) : (edgeArm s).ret = s.ret := rfl
@[simp] theorem edgeArm_faults (s : State) : (edgeArm s).faults = s.faults := rfl
@[simp] theorem edgeArm_refused (s : State) : (edgeArm s).refused = s.refused := rfl
@[simp] theorem edgeArm_time (s : State) : (edgeArm s).time = s.time := rfl
@[simp] theorem edgeArm_draws (s : State) : (edgeArm s).draws = s.draws := rfl
@[simp] theorem edgeArm_inbox (s : State) : (edgeArm s).inbox = s.inbox := rfl
@[simp] theorem edgeArm_sched (s : State) : (edgeArm s).sched = s.sched := rfl

/-! ### `edgeDisarm` -/

@[simp] theorem edgeDisarm_cfg (s : State) : (edgeDisarm s).cfg = s.cfg := rfl
@[simp] theorem edgeDisarm_status (s : State) : (edgeDisarm s).status = s.status := rfl
@[simp] theorem edgeDisarm_inflight (s : State) : (edgeDisarm s).inflight = s.inflight := rfl
@[simp] theorem edgeDisarm_tx (s : State) : (edgeDisarm s).tx = s.tx := rfl
@[simp] theorem edgeDisarm_rx (s : State) : (edgeDisarm s).rx = s.rx := rfl
@[simp] theorem edgeDisarm_timer (s : State) : (edgeDisarm s).timer = s.timer := rfl
@[simp] theorem edgeDisarm_shift (s : State) : (edgeDisarm s).shift = s.shift := rfl
@[simp] theorem edgeDisarm_edge (s : State) : (edgeDisarm s).edge = { s.edge with ie := false, flag := false } := rfl
@[simp] theorem edgeDisarm_extLevel (s : State) : (edgeDisarm s).extLevel = s.extLevel := rfl
@[simp] theorem edgeDisarm_gie (s : State) : (edgeDisarm s).gie = s.gie := rfl
@[simp] theorem edgeDisarm_mainPc (s : State) : (edgeDisarm s).mainPc = s.mainPc := rfl
@[simp] theorem edgeDisarm_ret (s : State) : (edgeDisarm s).ret = s.ret := rfl
@[simp] theorem edgeDisarm_faults (s : State) : (edgeDisarm s).faults = s.faults := rfl
@[simp] theorem edgeDisarm_refused (s : State) : (edgeDisarm s).refused = s.refused := rfl
@[simp] theorem edgeDisarm_time (s : State) : (edgeDisarm s).time = s.time := rfl
@[simp] theorem edgeDisarm_draws (s : State) : (edgeDisarm s).draws = s.draws := rfl
@[simp] theorem edgeDisarm_inbox (s : State) : (edgeDisarm s).inbox = s.inbox := rfl
@[simp] theorem edgeDisarm_sched (s : State) : (edgeDisarm s).sched = s.sched := rfl

/-! ### `setTx` -/

@[simp] theorem setTx_cfg (s : State) (b : RingBuffer) : (s.setRing .tx b).cfg = s.cfg := rfl
@[simp] theorem setTx_status (s : State) (b : RingBuffer) : (s.setRing .tx b).status = s.status := rfl
@[simp] theorem setTx_inflight (s : State) (b : RingBuffer) : (s.setRing .tx b).inflight = s.inflight := rfl
@[simp] theorem setTx_tx (s : State) (b : RingBuffer) : (s.setRing .tx b).tx = b := rfl
@[simp] theorem setTx_rx (s : State) (b : RingBuffer) : (s.setRing .tx b).rx = s.rx := rfl
@[simp] theorem setTx_timer (s : State) (b : RingBuffer) : (s.setRing .tx b).timer = s.timer := rfl
@[simp] theorem setTx_shift (s : State) (b : RingBuffer) : (s.setRing .tx b).shift = s.shift := rfl
@[simp] theorem setTx_edge (s : State) (b : RingBuffer) : (s.setRing .tx b).edge = s.edge := rfl
@[simp] theorem setTx_extLevel (s : State) (b : RingBuffer) : (s.setRing .tx b).extLevel = s.extLevel := rfl
@[simp] theorem setTx_gie (s : State) (b : RingBuffer) : (s.setRing .tx b).gie = s.gie := rfl
@[simp] theorem setTx_mainPc (s : State) (b : RingBuffer) : (s.setRing .tx b).mainPc = s.mainPc := rfl
@[simp] theorem setTx_ret (s : State) (b : RingBuffer) : (s.setRing .tx b).ret = s.ret := rfl
@[simp] theorem setTx_faults (s : State) (b : RingBuffer) : (s.setRing .tx b).faults = s.faults := rfl
@[simp] theorem setTx_refused (s : State) (b : RingBuffer) : (s.setRing .tx b).refused = s.refused := rfl
@[simp] theorem setTx_time (s : State) (b : RingBuffer) : (s.setRing .tx b).time = s.time := rfl
@[simp] theorem setTx_draws (s : State) (b : RingBuffer) : (s.setRing .tx b).draws = s.draws := rfl
@[simp] theorem setTx_inbox (s : State) (b : RingBuffer) : (s.setRing .tx b).inbox = s.inbox := rfl
@[simp] theorem setTx_sched (s : State) (b : RingBuffer) : (s.setRing .tx b).sched = s.sched := rfl

/-! ### `setRx` -/

@[simp] theorem setRx_cfg (s : State) (b : RingBuffer) : (s.setRing .rx b).cfg = s.cfg := rfl
@[simp] theorem setRx_status (s : State) (b : RingBuffer) : (s.setRing .rx b).status = s.status := rfl
@[simp] theorem setRx_inflight (s : State) (b : RingBuffer) : (s.setRing .rx b).inflight = s.inflight := rfl
@[simp] theorem setRx_tx (s : State) (b : RingBuffer) : (s.setRing .rx b).tx = s.tx := rfl
@[simp] theorem setRx_rx (s : State) (b : RingBuffer) : (s.setRing .rx b).rx = b := rfl
@[simp] theorem setRx_timer (s : State) (b : RingBuffer) : (s.setRing .rx b).timer = s.timer := rfl
@[simp] theorem setRx_shift (s : State) (b : RingBuffer) : (s.setRing .rx b).shift = s.shift := rfl
@[simp] theorem setRx_edge (s : State) (b : RingBuffer) : (s.setRing .rx b).edge = s.edge := rfl
@[simp] theorem setRx_extLevel (s : State) (b : RingBuffer) : (s.setRing .rx b).extLevel = s.extLevel := rfl
@[simp] theorem setRx_gie (s : State) (b : RingBuffer) : (s.setRing .rx b).gie = s.gie := rfl
@[simp] theorem setRx_mainPc (s : State) (b : RingBuffer) : (s.setRing .rx b).mainPc = s.mainPc := rfl
@[simp] theorem setRx_ret (s : State) (b : RingBuffer) : (s.setRing .rx b).ret = s.ret := rfl
@[simp] theorem setRx_faults (s : State) (b : RingBuffer) : (s.setRing .rx b).faults = s.faults := rfl
@[simp] theorem setRx_refused (s : State) (b : RingBuffer) : (s.setRing .rx b).refused = s.refused := rfl
@[simp] theorem setRx_time (s : State) (b : RingBuffer) : (s.setRing .rx b).time = s.time := rfl
@[simp] theorem setRx_draws (s : State) (b : RingBuffer) : (s.setRing .rx b).draws = s.draws := rfl
@[simp] theorem setRx_inbox (s : State) (b : RingBuffer) : (s.setRing .rx b).inbox = s.inbox := rfl
@[simp] theorem setRx_sched (s : State) (b : RingBuffer) : (s.setRing .rx b).sched = s.sched := rfl

/-! ### `flushTx` -/

@[simp] theorem flushTx_cfg (s : State) : (rbFlush .tx s).cfg = s.cfg := rfl
@[simp] theorem flushTx_status (s : State) : (rbFlush .tx s).status = s.status := rfl
@[simp] theorem flushTx_inflight (s : State) : (rbFlush .tx s).inflight = s.inflight := rfl
@[simp] theorem flushTx_tx (s : State) : (rbFlush .tx s).tx = { s.tx with head := 0, tail := 0 } := rfl
@[simp] theorem flushTx_rx (s : State) : (rbFlush .tx s).rx = s.rx := rfl
@[simp] theorem flushTx_timer (s : State) : (rbFlush .tx s).timer = s.timer := rfl
@[simp] theorem flushTx_shift (s : State) : (rbFlush .tx s).shift = s.shift := rfl
@[simp] theorem flushTx_edge (s : State) : (rbFlush .tx s).edge = s.edge := rfl
@[simp] theorem flushTx_extLevel (s : State) : (rbFlush .tx s).extLevel = s.extLevel := rfl
@[simp] theorem flushTx_gie (s : State) : (rbFlush .tx s).gie = s.gie := rfl
@[simp] theorem flushTx_mainPc (s : State) : (rbFlush .tx s).mainPc = s.mainPc := rfl
@[simp] theorem flushTx_ret (s : State) : (rbFlush .tx s).ret = s.ret := rfl
@[simp] theorem flushTx_faults (s : State) : (rbFlush .tx s).faults = s.faults := rfl
@[simp] theorem flushTx_refused (s : State) : (rbFlush .tx s).refused = s.refused := rfl
@[simp] theorem flushTx_time (s : State) : (rbFlush .tx s).time = s.time := rfl
@[simp] theorem flushTx_draws (s : State) : (rbFlush .tx s).draws = s.draws := rfl
@[simp] theorem flushTx_inbox (s : State) : (rbFlush .tx s).inbox = s.inbox := rfl
@[simp] theorem flushTx_sched (s : State) : (rbFlush .tx s).sched = s.sched := rfl

/-! ### `flushRx` -/

@[simp] theorem flushRx_cfg (s : State) : (rbFlush .rx s).cfg = s.cfg := rfl
@[simp] theorem flushRx_status (s : State) : (rbFlush .rx s).status = s.status := rfl
@[simp] theorem flushRx_inflight (s : State) : (rbFlush .rx s).inflight = s.inflight := rfl
@[simp] theorem flushRx_tx (s : State) : (rbFlush .rx s).tx = s.tx := rfl
@[simp] theorem flushRx_rx (s : State) : (rbFlush .rx s).rx = { s.rx with head := 0, tail := 0 } := rfl
@[simp] theorem flushRx_timer (s : State) : (rbFlush .rx s).timer = s.timer := rfl
@[simp] theorem flushRx_shift (s : State) : (rbFlush .rx s).shift = s.shift := rfl
@[simp] theorem flushRx_edge (s : State) : (rbFlush .rx s).edge = s.edge := rfl
@[simp] theorem flushRx_extLevel (s : State) : (rbFlush .rx s).extLevel = s.extLevel := rfl
@[simp] theorem flushRx_gie (s : State) : (rbFlush .rx s).gie = s.gie := rfl
@[simp] theorem flushRx_mainPc (s : State) : (rbFlush .rx s).mainPc = s.mainPc := rfl
@[simp] theorem flushRx_ret (s : State) : (rbFlush .rx s).ret = s.ret := rfl
@[simp] theorem flushRx_faults (s : State) : (rbFlush .rx s).faults = s.faults := rfl
@[simp] theorem flushRx_refused (s : State) : (rbFlush .rx s).refused = s.refused := rfl
@[simp] theorem flushRx_time (s : State) : (rbFlush .rx s).time = s.time := rfl
@[simp] theorem flushRx_draws (s : State) : (rbFlush .rx s).draws = s.draws := rfl
@[simp] theorem flushRx_inbox (s : State) : (rbFlush .rx s).inbox = s.inbox := rfl
@[simp] theorem flushRx_sched (s : State) : (rbFlush .rx s).sched = s.sched := rfl

/-! ### `isrTimerOvfBody` -/

@[simp] theorem isrTimerOvfBody_cfg (s : State) : (isrTimerOvfBody s).cfg = s.cfg := rfl
@[simp] theorem isrTimerOvfBody_status (s : State) : (isrTimerOvfBody s).status = s.status := rfl
@[simp] theorem isrTimerOvfBody_inflight (s : State) : (isrTimerOvfBody s).inflight = s.inflight := rfl
@[simp] theorem isrTimerOvfBody_tx (s : State) : (isrTimerOvfBody s).tx = s.tx := rfl
@[simp] theorem isrTimerOvfBody_rx (s : State) : (isrTimerOvfBody s).rx = s.rx := rfl
@[simp] theorem isrTimerOvfBody_timer (s : State) : (isrTimerOvfBody s).timer = { s.timer with tcnt := s.timer.tcnt + s.cfg.reloadSteady } := rfl
@[simp] theorem isrTimerOvfBody_shift (s : State) : (isrTimerOvfBody s).shift = s.shift := rfl
@[simp] theorem isrTimerOvfBody_edge (s : State) : (isrTimerOvfBody s).edge = s.edge := rfl
@[simp] theorem isrTimerOvfBody_extLevel (s : State) : (isrTimerOvfBody s).extLevel = s.extLevel := rfl
@[simp] theorem isrTimerOvfBody_gie (s : State) : (isrTimerOvfBody s).gie = s.gie := rfl
@[simp] theorem isrTimerOvfBody_mainPc (s : State) : (isrTimerOvfBody s).mainPc = s.mainPc := rfl
@[simp] theorem isrTimerOvfBody_ret (s : State) : (isrTimerOvfBody s).ret = s.ret := rfl
@[simp] theorem isrTimerOvfBody_faults (s : State) : (isrTimerOvfBody s).faults = s.faults := rfl
@[simp] theorem isrTimerOvfBody_refused (s : State) : (isrTimerOvfBody s).refused = s.refused := rfl
@[simp] theorem isrTimerOvfBody_time (s : State) : (isrTimerOvfBody s).time = s.time := rfl
@[simp] theorem isrTimerOvfBody_draws (s : State) : (isrTimerOvfBody s).draws = s.draws := rfl
@[simp] theorem isrTimerOvfBody_inbox (s : State) : (isrTimerOvfBody s).inbox = s.inbox := rfl
@[simp] theorem isrTimerOvfBody_sched (s : State) : (isrTimerOvfBody s).sched = s.sched := rfl

/-! ### `startTx` -/

@[simp] theorem startTx_cfg (s : State) : (startTx s).cfg = s.cfg := by simp [startTx, startTxPeripherals]
@[simp] theorem startTx_status (s : State) : (startTx s).status = { s.status with txHalfFrameActive := false, txFromBufferActive := true } := by simp [startTx, startTxPeripherals]
@[simp] theorem startTx_inflight (s : State) : (startTx s).inflight = s.inflight := by simp [startTx, startTxPeripherals]
@[simp] theorem startTx_tx (s : State) : (startTx s).tx = s.tx := by simp [startTx, startTxPeripherals]
@[simp] theorem startTx_rx (s : State) : (startTx s).rx = s.rx := by simp [startTx, startTxPeripherals]
@[simp] theorem startTx_timer (s : State) : (startTx s).timer = { tcnt := s.cfg.txStart, run := true, ovfIe := true, ovfFlag := false } := by simp [startTx, startTxPeripherals]
@[simp] theorem startTx_shift (s : State) : (startTx s).shift = { sr := primingValue, cnt := seedPrime, mode := .output, clk := .timerOvf, ovfIe := true, ovfFlag := false } := by simp [startTx, startTxPeripherals]
@[simp] theorem startTx_edge (s : State) : (startTx s).edge = { s.edge with ie := false, flag := false } := by simp [startTx, startTxPeripherals]
@[simp] theorem startTx_extLevel (s : State) : (startTx s).extLevel = s.extLevel := by simp [startTx, startTxPeripherals]
@[simp] theorem startTx_gie (s : State) : (startTx s).gie = s.gie := by simp [startTx, startTxPeripherals]
@[simp] theorem startTx_mainPc (s : State) : (startTx s).mainPc = s.mainPc := by simp [startTx, startTxPeripherals]
@[simp] theorem startTx_ret (s : State) : (startTx s).ret = s.ret := by simp [startTx, startTxPeripherals]
@[simp] theorem startTx_faults (s : State) : (startTx s).faults = s.faults := by simp [startTx, startTxPeripherals]
@[simp] theorem startTx_refused (s : State) : (startTx s).refused = s.refused := by simp [startTx, startTxPeripherals]
@[simp] theorem startTx_time (s : State) : (startTx s).time = s.time := by simp [startTx, startTxPeripherals]
@[simp] theorem startTx_draws (s : State) : (startTx s).draws = s.draws := by simp [startTx, startTxPeripherals]
@[simp] theorem startTx_inbox (s : State) : (startTx s).inbox = s.inbox := by simp [startTx, startTxPeripherals]
@[simp] theorem startTx_sched (s : State) : (startTx s).sched = s.sched := by simp [startTx, startTxPeripherals]

/-! ### `startRx` -/

@[simp] theorem startRx_cfg (s : State) : (startRx s).cfg = s.cfg := by simp [startRx, startRxPeripherals]
@[simp] theorem startRx_status (s : State) : (startRx s).status = { s.status with rxPackageActive := true } := by simp [startRx, startRxPeripherals]
@[simp] theorem startRx_inflight (s : State) : (startRx s).inflight = s.inflight := by simp [startRx, startRxPeripherals]
@[simp] theorem startRx_tx (s : State) : (startRx s).tx = s.tx := by simp [startRx, startRxPeripherals]
@[simp] theorem startRx_rx (s : State) : (startRx s).rx = s.rx := by simp [startRx, startRxPeripherals]
@[simp] theorem startRx_timer (s : State) : (startRx s).timer = { tcnt := s.cfg.reloadInitial, run := true, ovfIe := true, ovfFlag := false } := by simp [startRx, startRxPeripherals]
@[simp] theorem startRx_shift (s : State) : (startRx s).shift = { sr := s.shift.sr, cnt := seedRx, mode := .input, clk := .timerOvf, ovfIe := true, ovfFlag := false } := by simp [startRx, startRxPeripherals]
@[simp] theorem startRx_edge (s : State) : (startRx s).edge = { s.edge with ie := false, flag := false } := by simp [startRx, startRxPeripherals]
@[simp] theorem startRx_extLevel (s : State) : (startRx s).extLevel = s.extLevel := by simp [startRx, startRxPeripherals]
@[simp] theorem startRx_gie (s : State) : (startRx s).gie = s.gie := by simp [startRx, startRxPeripherals]
@[simp] theorem startRx_mainPc (s : State) : (startRx s).mainPc = s.mainPc := by simp [startRx, startRxPeripherals]
@[simp] theorem startRx_ret (s : State) : (startRx s).ret = s.ret := by simp [startRx, startRxPeripherals]
@[simp] theorem startRx_faults (s : State) : (startRx s).faults = s.faults := by simp [startRx, startRxPeripherals]
@[simp] theorem startRx_refused (s : State) : (startRx s).refused = s.refused := by simp [startRx, startRxPeripherals]
@[simp] theorem startRx_time (s : State) : (startRx s).time = s.time := by simp [startRx, startRxPeripherals]
@[simp] theorem startRx_draws (s : State) : (startRx s).draws = s.draws := by simp [startRx, startRxPeripherals]
@[simp] theorem startRx_inbox (s : State) : (startRx s).inbox = s.inbox := by simp [startRx, startRxPeripherals]
@[simp] theorem startRx_sched (s : State) : (startRx s).sched = s.sched := by simp [startRx, startRxPeripherals]

/-! ### `releaseAndArm` -/

@[simp] theorem releaseAndArm_cfg (s : State) : (releaseAndArm s).cfg = s.cfg := by simp [releaseAndArm]
@[simp] theorem releaseAndArm_status (s : State) : (releaseAndArm s).status = s.status := by simp [releaseAndArm]
@[simp] theorem releaseAndArm_inflight (s : State) : (releaseAndArm s).inflight = s.inflight := by simp [releaseAndArm]
@[simp] theorem releaseAndArm_tx (s : State) : (releaseAndArm s).tx = s.tx := by simp [releaseAndArm]
@[simp] theorem releaseAndArm_rx (s : State) : (releaseAndArm s).rx = s.rx := by simp [releaseAndArm]
@[simp] theorem releaseAndArm_timer (s : State) : (releaseAndArm s).timer = { s.timer with run := false, ovfIe := false, ovfFlag := false } := by simp [releaseAndArm]
@[simp] theorem releaseAndArm_shift (s : State) : (releaseAndArm s).shift = { s.shift with mode := .off, clk := .timerOvf, ovfIe := false, ovfFlag := false } := by simp [releaseAndArm]
@[simp] theorem releaseAndArm_edge (s : State) : (releaseAndArm s).edge = { ie := true, flag := false, lastLevel := s.extLevel } := by simp [releaseAndArm, State.line]
@[simp] theorem releaseAndArm_extLevel (s : State) : (releaseAndArm s).extLevel = s.extLevel := by simp [releaseAndArm]
@[simp] theorem releaseAndArm_gie (s : State) : (releaseAndArm s).gie = s.gie := by simp [releaseAndArm]
@[simp] theorem releaseAndArm_mainPc (s : State) : (releaseAndArm s).mainPc = s.mainPc := by simp [releaseAndArm]
@[simp] theorem releaseAndArm_ret (s : State) : (releaseAndArm s).ret = s.ret := by simp [releaseAndArm]
@[simp] theorem releaseAndArm_faults (s : State) : (releaseAndArm s).faults = s.faults := by simp [releaseAndArm]
@[simp] theorem releaseAndArm_refused (s : State) : (releaseAndArm s).refused = s.refused := by simp [releaseAndArm]
@[simp] theorem releaseAndArm_time (s : State) : (releaseAndArm s).time = s.time := by simp [releaseAndArm]
@[simp] theorem releaseAndArm_draws (s : State) : (releaseAndArm s).draws = s.draws := by simp [releaseAndArm]
@[simp] theorem releaseAndArm_inbox (s : State) : (releaseAndArm s).inbox = s.inbox := by simp [releaseAndArm]
@[simp] theorem releaseAndArm_sched (s : State) : (releaseAndArm s).sched = s.sched := by simp [releaseAndArm]

/-! ### `loadSecondHalf` -/

@[simp] theorem loadSecondHalf_cfg (s : State) : (loadSecondHalf s).cfg = s.cfg := by simp [loadSecondHalf]
@[simp] theorem loadSecondHalf_status (s : State) : (loadSecondHalf s).status = { s.status with txHalfFrameActive := false } := by simp [loadSecondHalf]
@[simp] theorem loadSecondHalf_inflight (s : State) : (loadSecondHalf s).inflight = s.inflight := by simp [loadSecondHalf]
@[simp] theorem loadSecondHalf_tx (s : State) : (loadSecondHalf s).tx = s.tx := by simp [loadSecondHalf]
@[simp] theorem loadSecondHalf_rx (s : State) : (loadSecondHalf s).rx = s.rx := by simp [loadSecondHalf]
@[simp] theorem loadSecondHalf_timer (s : State) : (loadSecondHalf s).timer = s.timer := by simp [loadSecondHalf]
@[simp] theorem loadSecondHalf_shift (s : State) : (loadSecondHalf s).shift = { s.shift with sr := halfFrame2 s.inflight, cnt := seedTx } := by simp [loadSecondHalf]
@[simp] theorem loadSecondHalf_edge (s : State) : (loadSecondHalf s).edge = s.edge := by simp [loadSecondHalf]
@[simp] theorem loadSecondHalf_extLevel (s : State) : (loadSecondHalf s).extLevel = s.extLevel := by simp [loadSecondHalf]
@[simp] theorem loadSecondHalf_gie (s : State) : (loadSecondHalf s).gie = s.gie := by simp [loadSecondHalf]
@[simp] theorem loadSecondHalf_mainPc (s : State) : (loadSecondHalf s).mainPc = s.mainPc := by simp [loadSecondHalf]
@[simp] theorem loadSecondHalf_ret (s : State) : (loadSecondHalf s).ret = s.ret := by simp [loadSecondHalf]
@[simp] theorem loadSecondHalf_faults (s : State) : (loadSecondHalf s).faults = s.faults := by simp [loadSecondHalf]
@[simp] theorem loadSecondHalf_refused (s : State) : (loadSecondHalf s).refused = s.refused := by simp [loadSecondHalf]
@[simp] theorem loadSecondHalf_time (s : State) : (loadSecondHalf s).time = s.time := by simp [loadSecondHalf]
@[simp] theorem loadSecondHalf_draws (s : State) : (loadSecondHalf s).draws = s.draws := by simp [loadSecondHalf]
@[simp] theorem loadSecondHalf_inbox (s : State) : (loadSecondHalf s).inbox = s.inbox := by simp [loadSecondHalf]
@[simp] theorem loadSecondHalf_sched (s : State) : (loadSecondHalf s).sched = s.sched := by simp [loadSecondHalf]

/-! ### `endTransmission` -/

@[simp] theorem endTransmission_cfg (s : State) : (endTransmission s).cfg = s.cfg := by simp [endTransmission]
@[simp] theorem endTransmission_status (s : State) : (endTransmission s).status = { s.status with txFromBufferActive := false } := by simp [endTransmission]
@[simp] theorem endTransmission_inflight (s : State) : (endTransmission s).inflight = s.inflight := by simp [endTransmission]
@[simp] theorem endTransmission_tx (s : State) : (endTransmission s).tx = s.tx := by simp [endTransmission]
@[simp] theorem endTransmission_rx (s : State) : (endTransmission s).rx = s.rx := by simp [endTransmission]
@[simp] theorem endTransmission_timer (s : State) : (endTransmission s).timer = { s.timer with run := false, ovfIe := false, ovfFlag := false } := by simp [endTransmission]
@[simp] theorem endTransmission_shift (s : State) : (endTransmission s).shift = { s.shift with mode := .off, clk := .timerOvf, ovfIe := false, ovfFlag := false } := by simp [endTransmission]
@[simp] theorem endTransmission_edge (s : State) : (endTransmission s).edge = { ie := true, flag := false, lastLevel := s.extLevel } := by simp [endTransmission]
@[simp] theorem endTransmission_extLevel (s : State) : (endTransmission s).extLevel = s.extLevel := by simp [endTransmission]
@[simp] theorem endTransmission_gie (s : State) : (endTransmission s).gie = s.gie := by simp [endTransmission]
@[simp] theorem endTransmission_mainPc (s : State) : (endTransmission s).mainPc = s.mainPc := by simp [endTransmission]
@[simp] theorem endTransmission_ret (s : State) : (endTransmission s).ret = s.ret := by simp [endTransmission]
@[simp] theorem endTransmission_faults (s : State) : (endTransmission s).faults = s.faults := by simp [endTransmission]
@[simp] theorem endTransmission_refused (s : State) : (endTransmission s).refused = s.refused := by simp [endTransmission]
@[simp] theorem endTransmission_time (s : State) : (endTransmission s).time = s.time := by simp [endTransmission]
@[simp] theorem endTransmission_draws (s : State) : (endTransmission s).draws = s.draws := by simp [endTransmission]
@[simp] theorem endTransmission_inbox (s : State) : (endTransmission s).inbox = s.inbox := by simp [endTransmission]
@[simp] theorem endTransmission_sched (s : State) : (endTransmission s).sched = s.sched := by simp [endTransmission]

/-! ### `shiftTick` -/

@[simp] theorem shiftTick_cfg (s : State) : (shiftTick s).cfg = s.cfg := by unfold shiftTick; split <;> rfl
@[simp] theorem shiftTick_status (s : State) : (shiftTick s).status = s.status := by unfold shiftTick; split <;> rfl
@[simp] theorem shiftTick_inflight (s : State) : (shiftTick s).inflight = s.inflight := by unfold shiftTick; split <;> rfl
@[simp] theorem shiftTick_tx (s : State) : (shiftTick s).tx = s.tx := by unfold shiftTick; split <;> rfl
@[simp] theorem shiftTick_rx (s : State) : (shiftTick s).rx = s.rx := by unfold shiftTick; split <;> rfl
@[simp] theorem shiftTick_timer (s : State) : (shiftTick s).timer = s.timer := by unfold shiftTick; split <;> rfl
@[simp] theorem shiftTick_edge (s : State) : (shiftTick s).edge = s.edge := by unfold shiftTick; split <;> rfl
@[simp] theorem shiftTick_extLevel (s : State) : (shiftTick s).extLevel = s.extLevel := by unfold shiftTick; split <;> rfl
@[simp] theorem shiftTick_gie (s : State) : (shiftTick s).gie = s.gie := by unfold shiftTick; split <;> rfl
@[simp] theorem shiftTick_mainPc (s : State) : (shiftTick s).mainPc = s.mainPc := by unfold shiftTick; split <;> rfl
@[simp] theorem shiftTick_ret (s : State) : (shiftTick s).ret = s.ret := by unfold shiftTick; split <;> rfl
@[simp] theorem shiftTick_faults (s : State) : (shiftTick s).faults = s.faults := by unfold shiftTick; split <;> rfl
@[simp] theorem shiftTick_refused (s : State) : (shiftTick s).refused = s.refused := by unfold shiftTick; split <;> rfl
@[simp] theorem shiftTick_time (s : State) : (shiftTick s).time = s.time := by unfold shiftTick; split <;> rfl
@[simp] theorem shiftTick_draws (s : State) : (shiftTick s).draws = s.draws := by unfold shiftTick; split <;> rfl
@[simp] theorem shiftTick_inbox (s : State) : (shiftTick s).inbox = s.inbox := by unfold shiftTick; split <;> rfl
@[simp] theorem shiftTick_sched (s : State) : (shiftTick s).sched = s.sched := by unfold shiftTick; split <;> rfl

/-! ### `countStep` -/

@[simp] theorem countStep_cfg (s : State) : (countStep s).cfg = s.cfg := by
  unfold countStep; split
  · split <;> simp
  · rfl
@[simp] theorem countStep_status (s : State) : (countStep s).status = s.status := by
  unfold countStep; split
  · split <;> simp
  · rfl
@[simp] theorem countStep_inflight (s : State) : (countStep s).inflight = s.inflight := by
  unfold countStep; split
  · split <;> simp
  · rfl
@[simp] theorem countStep_tx (s : State) : (countStep s).tx = s.tx := by
  unfold countStep; split
  · split <;> simp
  · rfl
@[simp] theorem countStep_rx (s : State) : (countStep s).rx = s.rx := by
  unfold countStep; split
  · split <;> simp
  · rfl
@[simp] theorem countStep_edge (s : State) : (countStep s).edge = s.edge := by
  unfold countStep; split
  · split <;> simp
  · rfl
@[simp] theorem countStep_extLevel (s : State) : (countStep s).extLevel = s.extLevel := by
  unfold countStep; split
  · split <;> simp
  · rfl
@[simp] theorem countStep_gie (s : State) : (countStep s).gie = s.gie := by
  unfold countStep; split
  · split <;> simp
  · rfl
@[simp] theorem countStep_mainPc (s : State) : (countStep s).mainPc = s.mainPc := by
  unfold countStep; split
  · split <;> simp
  · rfl
@[simp] theorem countStep_ret (s : State) : (countStep s).ret = s.ret := by
  unfold countStep; split
  · split <;> simp
  · rfl
@[simp] theorem countStep_faults (s : State) : (countStep s).faults = s.faults := by
  unfold countStep; split
  · split <;> simp
  · rfl
@[simp] theorem countStep_refused (s : State) : (countStep s).refused = s.refused := by
  unfold countStep; split
  · split <;> simp
  · rfl
@[simp] theorem countStep_time (s : State) : (countStep s).time = s.time := by
  unfold countStep; split
  · split <;> simp
  · rfl
@[simp] theorem countStep_draws (s : State) : (countStep s).draws = s.draws := by
  unfold countStep; split
  · split <;> simp
  · rfl
@[simp] theorem countStep_inbox (s : State) : (countStep s).inbox = s.inbox := by
  unfold countStep; split
  · split <;> simp
  · rfl
@[simp] theorem countStep_sched (s : State) : (countStep s).sched = s.sched := by
  unfold countStep; split
  · split <;> simp
  · rfl

end Sys2Proof.Laws
end

