-- ==== Sys2Proof/Laws/Ops.lean ====
section
/-! SUPPORT. What each shared operation can do, said once: the end of a step, storage, the ring primitives. -/

namespace Sys2Proof.Laws

open Sys2Proof.Machine

/-! ### The line and `settle` -/

@[simp] theorem settleEdge_line (s : State) : s.settleEdge.line = s.line := rfl

@[simp] theorem settleEdge_collides (s : State) : s.settleEdge.collides = s.collides := rfl

@[simp] theorem settleEdge_slot (s : State) (r : RingSel) (i : Byte) : s.settleEdge.slot r i = s.slot r i := by
  cases r <;> rfl

@[simp] theorem settleEdge_ring (s : State) (r : RingSel) : s.settleEdge.ring r = s.ring r := by cases r <;> rfl

/-- `settle` answers the settled state, unless the block drives against a far end at 0. -/
theorem settle_of_not_collides {s : State} (h : s.collides = false) : settle s = .next s.settleEdge := by
  simp [settle, h]

theorem settle_of_collides {s : State} (h : s.collides = true) :
    settle s = .fault (.raised .collision (s.settleEdge.recordFault .collision)) := by
  simp [settle, raiseFault, h]

/-- All that `settle` can do with a next state. -/
theorem settle_next {s t : State} : settle s = .next t ↔ s.collides = false ∧ t = s.settleEdge := by
  cases h : s.collides
  · simp [settle_of_not_collides h, eq_comm]
  · simp [settle_of_collides h]

theorem settle_ne_refused (s : State) (r : Refusal) : settle s ≠ .refused r := by
  cases h : s.collides
  · simp [settle_of_not_collides h]
  · simp [settle_of_collides h]

/-! ### The end of a step -/

@[simp] theorem finish_ok (s t : State) : finish s (.ok t) = settle t := rfl

@[simp] theorem finish_error (s : State) (c : FaultCode) :
    finish s (.error c) = .fault (.raised c (s.recordFault c)) := rfl

/-- All that a step can be when it completes normally: its body answered a state, and `settle` accepted it. -/
theorem finish_next {s t : State} {body : Except FaultCode State} :
    finish s body = .next t ↔ ∃ u, body = .ok u ∧ u.collides = false ∧ t = u.settleEdge := by
  cases body with
  | error c => simp
  | ok u => simp [settle_next]

/-- All the faults a step can end in: its body's, or `settle`'s collision. -/
theorem finish_fault {s : State} {f : Fault} {body : Except FaultCode State} (h : finish s body = .fault f) :
    (∃ c, body = .error c ∧ f = .raised c (s.recordFault c)) ∨
      ∃ u, body = .ok u ∧ u.collides = true ∧ f = .raised .collision (u.settleEdge.recordFault .collision) := by
  cases body with
  | error c => exact .inl ⟨c, rfl, by simpa using h.symm⟩
  | ok u =>
    refine .inr ⟨u, rfl, ?_⟩
    cases hc : u.collides
    · simp [settle_of_not_collides hc] at h
    · simpa [settle_of_collides hc, eq_comm] using h

theorem finish_ne_refused (s : State) (body : Except FaultCode State) (r : Refusal) : finish s body ≠ .refused r := by
  cases body with
  | error c => simp
  | ok u => exact settle_ne_refused u r

theorem refuse_ne_next (reason : RefusalReason) (s t : State) : refuse reason s ≠ .next t := by simp [refuse]

/-! ### Rings -/

@[simp] theorem ring_tx (s : State) : s.ring .tx = s.tx := rfl

@[simp] theorem ring_rx (s : State) : s.ring .rx = s.rx := rfl

@[simp] theorem ring_setRing_same (s : State) (r : RingSel) (b : RingBuffer) : (s.setRing r b).ring r = b := by
  cases r <;> rfl

theorem ring_setRing_other (s : State) {r q : RingSel} (b : RingBuffer) (h : q ≠ r) :
    (s.setRing r b).ring q = s.ring q := by
  cases r <;> cases q <;> first | rfl | exact absurd rfl h

@[simp] theorem setRing_cfg (s : State) (r : RingSel) (b : RingBuffer) : (s.setRing r b).cfg = s.cfg := by
  cases r <;> rfl

@[simp] theorem setRing_status (s : State) (r : RingSel) (b : RingBuffer) : (s.setRing r b).status = s.status := by
  cases r <;> rfl

@[simp] theorem setRing_inflight (s : State) (r : RingSel) (b : RingBuffer) : (s.setRing r b).inflight = s.inflight := by
  cases r <;> rfl

@[simp] theorem setRing_timer (s : State) (r : RingSel) (b : RingBuffer) : (s.setRing r b).timer = s.timer := by
  cases r <;> rfl

@[simp] theorem setRing_shift (s : State) (r : RingSel) (b : RingBuffer) : (s.setRing r b).shift = s.shift := by
  cases r <;> rfl

@[simp] theorem setRing_edge (s : State) (r : RingSel) (b : RingBuffer) : (s.setRing r b).edge = s.edge := by
  cases r <;> rfl

@[simp] theorem setRing_extLevel (s : State) (r : RingSel) (b : RingBuffer) : (s.setRing r b).extLevel = s.extLevel := by
  cases r <;> rfl

@[simp] theorem setRing_gie (s : State) (r : RingSel) (b : RingBuffer) : (s.setRing r b).gie = s.gie := by
  cases r <;> rfl

@[simp] theorem setRing_mainPc (s : State) (r : RingSel) (b : RingBuffer) : (s.setRing r b).mainPc = s.mainPc := by
  cases r <;> rfl

@[simp] theorem setRing_ret (s : State) (r : RingSel) (b : RingBuffer) : (s.setRing r b).ret = s.ret := by
  cases r <;> rfl

@[simp] theorem setRing_faults (s : State) (r : RingSel) (b : RingBuffer) : (s.setRing r b).faults = s.faults := by
  cases r <;> rfl

@[simp] theorem setRing_refused (s : State) (r : RingSel) (b : RingBuffer) : (s.setRing r b).refused = s.refused := by
  cases r <;> rfl

@[simp] theorem setRing_time (s : State) (r : RingSel) (b : RingBuffer) : (s.setRing r b).time = s.time := by
  cases r <;> rfl

@[simp] theorem setRing_draws (s : State) (r : RingSel) (b : RingBuffer) : (s.setRing r b).draws = s.draws := by
  cases r <;> rfl

@[simp] theorem setRing_inbox (s : State) (r : RingSel) (b : RingBuffer) : (s.setRing r b).inbox = s.inbox := by
  cases r <;> rfl

@[simp] theorem setRing_sched (s : State) (r : RingSel) (b : RingBuffer) : (s.setRing r b).sched = s.sched := by
  cases r <;> rfl

@[simp] theorem setRing_line (s : State) (r : RingSel) (b : RingBuffer) : (s.setRing r b).line = s.line := by
  cases r <;> rfl

@[simp] theorem setRing_collides (s : State) (r : RingSel) (b : RingBuffer) :
    (s.setRing r b).collides = s.collides := by
  cases r <;> rfl

/-- A slot read depends on the ring's storage and the draw alone. -/
theorem slot_congr {s t : State} {r : RingSel} (hb : (t.ring r).buf = (s.ring r).buf) (hd : t.draws = s.draws)
    (i : Byte) : t.slot r i = s.slot r i := by
  simp [State.slot, hb, hd]

/-- The legal capacities are the powers of two 2^1 to 2^8 (R8). -/
theorem capacity_cases {c : Config} (h : c.valid = true) (r : RingSel) :
    c.capacity r ∈ [2, 4, 8, 16, 32, 64, 128, 256] := by
  simp only [Config.valid, Config.legalCapacities, Bool.and_eq_true, List.contains_iff_mem] at h
  cases r
  · exact h.1.1.1.1.2
  · exact h.1.1.1.2

/-- A masked index is in range (R41, R83). -/
theorem masked_lt_capacity {c : Config} (h : c.valid = true) (r : RingSel) (i : Byte) :
    (i &&& c.mask r).toNat < c.capacity r := by
  have hle : (i &&& c.mask r).toNat ≤ (c.mask r).toNat := by
    rw [BitVec.toNat_and]; exact Nat.and_le_right
  have hcap := capacity_cases h r
  have hm : (c.mask r).toNat = (c.capacity r - 1) % 256 := by simp [Config.mask]
  simp only [List.mem_cons, List.not_mem_nil, or_false] at hcap
  omega

theorem nextIndex_lt_capacity {s : State} (h : s.cfg.valid = true) (r : RingSel) (i : Byte) :
    (s.nextIndex r i).toNat < s.cfg.capacity r := masked_lt_capacity h r (i + 1)

/-- All that a push can do (R160). -/
theorem rbPush_cases {s : State} (hv : s.cfg.valid = true) (r : RingSel) (v : Byte) :
    (s.isFull r = true ∧ rbPush r v s = .ok (false, s)) ∨
      (s.isFull r = false ∧ rbPush r v s = .ok (true, s.setRing r
        { head := s.nextIndex r (s.ring r).head, tail := (s.ring r).tail
          buf := Memory.write (s.ring r).buf (s.nextIndex r (s.ring r).head).toNat v })) := by
  cases hf : s.isFull r
  · refine .inr ⟨rfl, ?_⟩
    cases r <;> simp [rbPush, memWrite, hf, nextIndex_lt_capacity hv, State.setRing, State.ring]
  · exact .inl ⟨rfl, by simp [rbPush, hf]⟩

/-- All that a pop can do (R163). -/
theorem rbPop_cases {s : State} (hv : s.cfg.valid = true) (r : RingSel) :
    (s.isEmpty r = true ∧ rbPop r s = .error .popEmpty) ∨
      (s.isEmpty r = false ∧ rbPop r s = .ok (s.slot r (s.nextIndex r (s.ring r).tail), s.setRing r
        { head := (s.ring r).head, tail := s.nextIndex r (s.ring r).tail, buf := (s.ring r).buf })) := by
  cases he : s.isEmpty r
  · refine .inr ⟨rfl, ?_⟩
    simp [rbPop, memRead, he, nextIndex_lt_capacity hv]
  · exact .inl ⟨rfl, by simp [rbPop, he]⟩

/-! ### Fault codes -/

theorem insertCode_ne_nil (c : FaultCode) (l : List FaultCode) : insertCode c l ≠ [] := by
  cases l with
  | nil => simp [insertCode]
  | cons d ds => simp only [insertCode]; split <;> [skip; split] <;> simp

theorem FaultCode_number_inj {c d : FaultCode} (h : c.number = d.number) : c = d := by
  cases c <;> cases d <;> simp [FaultCode.number] at h <;> rfl

/-- The set after `raise Fault(c)` holds `c` and what it held (R60). -/
theorem mem_insertCode {c d : FaultCode} {l : List FaultCode} : d ∈ insertCode c l ↔ d = c ∨ d ∈ l := by
  induction l with
  | nil => simp [insertCode]
  | cons e es ih =>
    simp only [insertCode]
    split
    · simp
    · split
      · rename_i h
        have := FaultCode_number_inj h
        subst this
        constructor
        · exact fun h => .inr h
        · rintro (h | h)
          · subst h; simp
          · exact h
      · simp [ih]; tauto

/-- A faulted state is quiescent (R341). -/
theorem recordFault_quiescent (s : State) (c : FaultCode) : (s.recordFault c).quiescent = true := by
  have h := insertCode_ne_nil c s.faults
  cases hl : insertCode c s.faults with
  | nil => exact absurd hl h
  | cons d ds => simp [State.quiescent, hl]

end Sys2Proof.Laws
end

