-- ==== Sys2Proof/Laws/Cases.lean ====
section
/-! SUPPORT. What each body can answer, said once: the ring primitives as commands, the handlers, the host commands,
the micro-steps and the time step. None needs a premise on the state. -/

namespace Sys2Proof.Laws

open Sys2Proof.Machine

/-- All that a push can answer: false and the same state, or true and a changed ring. -/
theorem rbPush_ok {r : RingSel} {v : Byte} {s t : State} {b : Bool} (h : rbPush r v s = .ok (b, t)) :
    (b = false ∧ t = s) ∨ (b = true ∧ ∃ q, t = s.setRing r q) := by
  unfold rbPush memWrite at h
  split at h
  · simp only [Except.ok.injEq, Prod.mk.injEq] at h
    exact .inl ⟨h.1.symm, h.2.symm⟩
  · split at h
    · simp at h
    · rename_i u hu
      split at hu
      · simp only [Except.ok.injEq, Prod.mk.injEq] at hu h
        subst hu
        refine .inr ⟨h.1.symm, ?_⟩
        rw [← h.2]
        cases r <;> exact ⟨_, rfl⟩
      · simp at hu

/-- All that a pop can answer: the ring held a byte, and only the ring has changed. -/
theorem rbPop_ok {r : RingSel} {s t : State} {v : Byte} (h : rbPop r s = .ok (v, t)) :
    s.isEmpty r = false ∧ ∃ q, t = s.setRing r q := by
  unfold rbPop at h
  split at h
  · simp at h
  · rename_i he
    split at h
    · simp at h
    · simp only [Except.ok.injEq, Prod.mk.injEq] at h
      exact ⟨by simpa using he, _, h.2.symm⟩

/-- All that a push as a command can answer. -/
theorem pushBody_ok {r : RingSel} {v : Byte} {s u : State} (h : pushBody r v s = .ok u) :
    ∃ q b, u = (s.setRing r q).deliver (.bool b) := by
  unfold pushBody at h
  split at h
  · simp at h
  · rename_i hp
    simp only [Except.ok.injEq] at h
    rcases rbPush_ok hp with ⟨rfl, he⟩ | ⟨rfl, q, he⟩
    · refine ⟨s.ring r, false, ?_⟩
      rw [← h, he]
      cases r <;> rfl
    · exact ⟨q, true, by rw [← h, he]⟩

/-- All that a pop as a command can answer. -/
theorem popBody_ok {r : RingSel} {s u : State} (h : popBody r s = .ok u) :
    ∃ q b, u = (s.setRing r q).deliver (.byte b) := by
  unfold popBody at h
  split at h
  · simp at h
  · rename_i hp
    simp only [Except.ok.injEq] at h
    obtain ⟨_, q, rfl⟩ := rbPop_ok hp
    exact ⟨q, _, h.symm⟩

/-- All that the edge handler's body can answer (R215). -/
theorem isrEdgeBody_ok {s u : State} (h : isrEdgeBody s = .ok u) :
    s.inTransfer = false ∧ (u = s ∧ s.line = true ∨ u = startRx s ∧ s.line = false) := by
  unfold isrEdgeBody at h
  split at h
  · simp at h
  · split at h <;> simp_all

/-- All that the overflow handler's body can answer: its four branches (R241 to R244). -/
theorem isrSrOvfBody_ok {s u : State} (h : isrSrOvfBody s = .ok u) :
    (s.status.txFromBufferActive = true ∧ s.status.txHalfFrameActive = true ∧ u = loadSecondHalf s) ∨
    (s.status.txFromBufferActive = true ∧ s.status.txHalfFrameActive = false ∧ s.isEmpty .tx = true ∧
      u = endTransmission s) ∨
    (s.status.txFromBufferActive = true ∧ s.status.txHalfFrameActive = false ∧ ∃ q v,
      u = srSetSeed seedTx (srWriteData (halfFrame1 v)
        { s.setRing .tx q with inflight := v, status := { s.status with txHalfFrameActive := true } })) ∨
    (s.status.txFromBufferActive = false ∧ s.status.rxPackageActive = true ∧ ∃ (q : RingBuffer) (o : Bool),
      (s.status.rxOverflow = true → o = true) ∧
      u = releaseAndArm { s.setRing .rx q with status :=
        { s.status with rxPackageActive := false, rxOverflow := o } }) := by
  unfold isrSrOvfBody at h
  split at h
  · rename_i h1
    split at h
    · rename_i h2
      simp only [Except.ok.injEq] at h
      exact .inl ⟨h1, h2, h.symm⟩
    · rename_i h2
      have h2 : s.status.txHalfFrameActive = false := by simpa using h2
      split at h
      · rename_i h3
        simp only [Except.ok.injEq] at h
        exact .inr (.inl ⟨h1, h2, h3, h.symm⟩)
      · unfold loadNextByte at h
        split at h
        · simp at h
        · rename_i hp
          simp only [Except.ok.injEq] at h
          obtain ⟨_, q, rfl⟩ := rbPop_ok hp
          exact .inr (.inr (.inl ⟨h1, h2, q, _, by rw [← h]; rfl⟩))
  · rename_i h1
    have h1 : s.status.txFromBufferActive = false := by simpa using h1
    split at h
    · rename_i h2
      unfold storeReceived at h
      split at h
      · simp at h
      · rename_i hp
        simp only [Except.ok.injEq] at h
        rcases rbPush_ok hp with ⟨h', _⟩ | ⟨_, q, rfl⟩
        · simp at h'
        · exact .inr (.inr (.inr ⟨h1, h2, q, s.status.rxOverflow, id, by rw [← h]; rfl⟩))
      · rename_i hp
        simp only [Except.ok.injEq] at h
        rcases rbPush_ok hp with ⟨_, rfl⟩ | ⟨h', _⟩
        · exact .inr (.inr (.inr ⟨h1, h2, s.rx, true, by simp, by rw [← h]; rfl⟩))
        · simp at h'
    · simp at h

/-- All that `INIT_RECEIVER`'s body can answer (R302). -/
theorem initReceiverBody_ok {s u : State} (h : initReceiverBody s = .ok u) :
    s.inTransfer = false ∧
      (u = s.complete .none ∧ s.edge.ie = true ∨ u = (releaseAndArm s).complete .none ∧ s.edge.ie = false) := by
  unfold initReceiverBody at h
  split at h
  · simp at h
  · split at h <;> simp_all

/-- All that `FLUSH_BUFFERS`' body can answer (R310). -/
theorem flushBuffersBody_ok {s u : State} (h : flushBuffersBody s = .ok u) :
    s.inTransfer = false ∧ u = (rbFlush .rx (rbFlush .tx s)).complete .none := by
  unfold flushBuffersBody at h
  split at h <;> simp_all

/-- All that a micro-step's body can answer (R304 to R308). -/
theorem microStepBody_ok {s u : State} (h : microStepBody s = .ok u) :
    u = s ∨
    (∃ v q, s.mainPc = .tbSpace v ∧ u = { s.setRing .tx q with mainPc := .tbCheck }) ∨
    (s.mainPc = .tbCheck ∧ s.status.txFromBufferActive = true ∧ u = s.complete .none) ∨
    (s.mainPc = .tbCheck ∧ s.status.txFromBufferActive = false ∧ u = { s with mainPc := .tbWaitRx }) ∨
    (s.mainPc = .tbWaitRx ∧ s.status.rxPackageActive = false ∧ u = (startTx s).complete .none) ∨
    (s.mainPc = .rbWait ∧ ∃ q v, u = (s.setRing .rx q).complete (.byte v)) := by
  unfold microStepBody at h
  split at h
  · simp only [Except.ok.injEq] at h
    exact .inl h.symm
  · rename_i v hm
    unfold tbSpace at h
    split at h
    · simp at h
    · rename_i hp
      simp only [Except.ok.injEq] at h
      rcases rbPush_ok hp with ⟨h', _⟩ | ⟨_, q, rfl⟩
      · simp at h'
      · exact .inr (.inl ⟨v, q, hm, h.symm⟩)
    · rename_i hp
      simp only [Except.ok.injEq] at h
      rcases rbPush_ok hp with ⟨_, rfl⟩ | ⟨h', _⟩
      · exact .inl h.symm
      · simp at h'
  · rename_i hm
    simp only [Except.ok.injEq, tbCheck] at h
    split at h
    · exact .inr (.inr (.inl ⟨hm, by assumption, h.symm⟩))
    · exact .inr (.inr (.inr (.inl ⟨hm, by simp_all, h.symm⟩)))
  · rename_i hm
    simp only [Except.ok.injEq, tbWaitRx] at h
    split at h
    · exact .inl h.symm
    · exact .inr (.inr (.inr (.inr (.inl ⟨hm, by simp_all, h.symm⟩))))
  · rename_i hm
    unfold rbWait at h
    split at h
    · simp only [Except.ok.injEq] at h
      exact .inl h.symm
    · split at h
      · simp at h
      · rename_i hp
        simp only [Except.ok.injEq] at h
        obtain ⟨_, q, rfl⟩ := rbPop_ok hp
        exact .inr (.inr (.inr (.inr (.inr ⟨hm, q, _, h.symm⟩))))

/-- All that a time step can change: the count and the timer's flag, the shift register's contents, counter and flag;
and nothing while the timer is stopped (R236, R276). -/
theorem countStep_shape (s : State) : ∃ (tm : Timer) (sh : ShiftReg), countStep s = { s with timer := tm, shift := sh } ∧
    tm.run = s.timer.run ∧ tm.ovfIe = s.timer.ovfIe ∧ sh.mode = s.shift.mode ∧ sh.clk = s.shift.clk ∧
    sh.ovfIe = s.shift.ovfIe ∧ (s.timer.run = false → tm = s.timer ∧ sh = s.shift) := by
  unfold countStep
  split
  · split
    · unfold shiftTick
      split
      · exact ⟨_, _, rfl, by simp_all⟩
      · exact ⟨_, _, rfl, by simp_all⟩
    · exact ⟨_, _, rfl, by simp_all⟩
  · exact ⟨_, _, rfl, by simp_all⟩

end Sys2Proof.Laws
end

