-- ==== Sys2Proof/Laws/Decode.lean ====
section
/-! SUPPORT. The fields of a word put together from fields, and each operand form read back. -/

namespace Sys2Proof.Laws

/-- The bits of a word put together from its fields: IMM, OP and CLASS from the bottom (R110). -/
theorem getLsbD_wordOf (c o : Nibble) (m : Byte) (i : Nat) :
    (wordOf c o m).getLsbD i =
      if i < 8 then m.getLsbD i else if i - 8 < 4 then o.getLsbD (i - 8) else c.getLsbD (i - 8 - 4) := by
  have h : wordOf c o m = ((c ++ o : BitVec (4 + 4)) ++ m : BitVec (4 + 4 + 8)) := rfl
  rw [h, BitVec.getLsbD_append, BitVec.getLsbD_append]

@[simp] theorem classField_wordOf (c o : Nibble) (m : Byte) : classField (wordOf c o m) = c := by
  apply BitVec.eq_of_getLsbD_eq
  intro i hi
  have h1 : ¬ (12 + i < 8) := by omega
  have h2 : ¬ (12 + i - 8 < 4) := by omega
  have h3 : 12 + i - 8 - 4 = i := by omega
  rw [classField, BitVec.getLsbD_extractLsb', getLsbD_wordOf]
  simp only [h1, h2, h3, hi, if_false, decide_true, Bool.true_and]

@[simp] theorem opField_wordOf (c o : Nibble) (m : Byte) : opField (wordOf c o m) = o := by
  apply BitVec.eq_of_getLsbD_eq
  intro i hi
  have h1 : ¬ (8 + i < 8) := by omega
  have h2 : 8 + i - 8 = i := by omega
  rw [opField, BitVec.getLsbD_extractLsb', getLsbD_wordOf]
  simp only [h1, h2, hi, if_false, if_true, decide_true, Bool.true_and]

@[simp] theorem immField_wordOf (c o : Nibble) (m : Byte) : immField (wordOf c o m) = m := by
  apply BitVec.eq_of_getLsbD_eq
  intro i hi
  rw [immField, BitVec.getLsbD_extractLsb', getLsbD_wordOf]
  simp only [Nat.zero_add, hi, if_true, decide_true, Bool.true_and]

/-- A word is its three fields. -/
theorem wordOf_fields (w : Word) : wordOf (classField w) (opField w) (immField w) = w := by
  apply BitVec.eq_of_getLsbD_eq
  intro i hi
  rw [getLsbD_wordOf, classField, opField, immField, BitVec.getLsbD_extractLsb', BitVec.getLsbD_extractLsb',
    BitVec.getLsbD_extractLsb']
  by_cases h1 : i < 8
  · simp [h1]
  · by_cases h2 : i - 8 < 4
    · have h3 : 8 + (i - 8) = i := by omega
      simp [h1, h2, h3]
    · have h3 : 12 + (i - 8 - 4) = i := by omega
      have h4 : i - 8 - 4 < 4 := by omega
      simp [h1, h2, h3, h4]

/-- Decoding a word put together from fields reads the fields (R110). -/
theorem decode_wordOf (c o : Nibble) (m : Byte) : decode (wordOf c o m) = decodeFields c.toNat o.toNat m := by
  simp [decode]

@[simp] theorem bitOperand_bitImm (b : Bool) (f : Bool → Instr) : bitOperand (bitImm b) f = .instr (f b) := by
  cases b <;> rfl

theorem seedOperand_seedImm (n : Nibble) : seedOperand (seedImm n) = .instr (.srSetSeed n) := by
  revert n; decide

/-- MODE and CLK read back, for each legal mode (R115). -/
theorem configureOperand_configureImm (m : SrMode) (k : ClkSource) (h : m ≠ .reserved) :
    configureOperand (configureImm m k) = .instr (.srConfigure m k) := by
  cases m <;> cases k <;> first | rfl | exact absurd rfl h

/-- A row that requires `IMM = 0` accepts it. -/
@[simp] theorem noOperand_zero (i : Instr) : noOperand 0 i = .instr i := rfl

/-- ... and nothing else. -/
theorem noOperand_instr {m : Byte} {i j : Instr} (h : noOperand m i = .instr j) : m = 0 ∧ j = i := by
  unfold noOperand at h
  split at h
  · exact ⟨by assumption, by simpa using h.symm⟩
  · simp at h

end Sys2Proof.Laws
end

