-- ==== Sys2Proof/Laws/Operands.lean ====
section
/-! SUPPORT. The bits of a reversed byte and of a packed control register. -/

namespace Sys2Proof.Laws

open Sys2Proof.Machine

/-- Bit i of the reversed byte is bit 7 - i of the byte (R190). -/
theorem reverseBits_getLsbD (b : Byte) (i : Fin 8) : (reverseBits b).getLsbD i = b.getLsbD (7 - i) := by
  revert b i; decide

/-- The bits of a packed control register (R36, R123). -/
theorem packByte_getLsbD (b0 b1 b2 b3 b4 : Bool) :
    (packByte b0 b1 b2 b3 b4).getLsbD 0 = b0 ∧ (packByte b0 b1 b2 b3 b4).getLsbD 1 = b1 ∧
      (packByte b0 b1 b2 b3 b4).getLsbD 2 = b2 ∧ (packByte b0 b1 b2 b3 b4).getLsbD 3 = b3 ∧
      (packByte b0 b1 b2 b3 b4).getLsbD 4 = b4 := by
  revert b0 b1 b2 b3 b4; decide

end Sys2Proof.Laws
end

