-- ==== Sys2Proof/Laws/PerInstr.lean ====
section
/-! SUPPORT. What is said of every command as syntax: the CLASS field of its word is its class's (30_encoding.md R111). -/

namespace Sys2Proof.Laws

/-- The CLASS value of a class (R111). -/
def classNumber : CmdClass → Nibble
  | .api => 0x0
  | .rb => 0x1
  | .codec => 0x2
  | .sr => 0x3
  | .timer => 0x4
  | .edge => 0x5
  | .handler => 0x6
  | .event => 0x7

namespace ClassField

/-- The CLASS field of the command's word is its class's number. -/
def Statement (i : Instr) : Prop := classField (encode i) = classNumber i.cmdClass

theorem initReceiver : Statement .initReceiver := by simp [Statement, encode, Instr.cmdClass, classNumber]

theorem transmitByte (b : Byte) : Statement (.transmitByte b) := by simp [Statement, encode, Instr.cmdClass, classNumber]

theorem receiveByte : Statement .receiveByte := by simp [Statement, encode, Instr.cmdClass, classNumber]

theorem dataAvailable : Statement .dataAvailable := by simp [Statement, encode, Instr.cmdClass, classNumber]

theorem flushBuffers : Statement .flushBuffers := by simp [Statement, encode, Instr.cmdClass, classNumber]

theorem readRxOverflow : Statement .readRxOverflow := by simp [Statement, encode, Instr.cmdClass, classNumber]

theorem clearRxOverflow : Statement .clearRxOverflow := by simp [Statement, encode, Instr.cmdClass, classNumber]

theorem rbPushTx (v : Byte) : Statement (.rbPushTx v) := by simp [Statement, encode, Instr.cmdClass, classNumber]

theorem rbPushRx (v : Byte) : Statement (.rbPushRx v) := by simp [Statement, encode, Instr.cmdClass, classNumber]

theorem rbPopTx : Statement .rbPopTx := by simp [Statement, encode, Instr.cmdClass, classNumber]

theorem rbPopRx : Statement .rbPopRx := by simp [Statement, encode, Instr.cmdClass, classNumber]

theorem rbIsEmptyTx : Statement .rbIsEmptyTx := by simp [Statement, encode, Instr.cmdClass, classNumber]

theorem rbIsEmptyRx : Statement .rbIsEmptyRx := by simp [Statement, encode, Instr.cmdClass, classNumber]

theorem rbFlushTx : Statement .rbFlushTx := by simp [Statement, encode, Instr.cmdClass, classNumber]

theorem rbFlushRx : Statement .rbFlushRx := by simp [Statement, encode, Instr.cmdClass, classNumber]

theorem reverseBits (b : Byte) : Statement (.reverseBits b) := by simp [Statement, encode, Instr.cmdClass, classNumber]

theorem srConfigure (mode : SrMode) (clk : ClkSource) : Statement (.srConfigure mode clk) := by simp [Statement, encode, Instr.cmdClass, classNumber]

theorem srSetSeed (n : Nibble) : Statement (.srSetSeed n) := by simp [Statement, encode, Instr.cmdClass, classNumber]

theorem srReadData : Statement .srReadData := by simp [Statement, encode, Instr.cmdClass, classNumber]

theorem srWriteData (v : Byte) : Statement (.srWriteData v) := by simp [Statement, encode, Instr.cmdClass, classNumber]

theorem srEnableOvfIrq (e : Bool) : Statement (.srEnableOvfIrq e) := by simp [Statement, encode, Instr.cmdClass, classNumber]

theorem srClearFlag : Statement .srClearFlag := by simp [Statement, encode, Instr.cmdClass, classNumber]

theorem timerWrite (v : Byte) : Statement (.timerWrite v) := by simp [Statement, encode, Instr.cmdClass, classNumber]

theorem timerAdd (v : Byte) : Statement (.timerAdd v) := by simp [Statement, encode, Instr.cmdClass, classNumber]

theorem timerStart : Statement .timerStart := by simp [Statement, encode, Instr.cmdClass, classNumber]

theorem timerStop : Statement .timerStop := by simp [Statement, encode, Instr.cmdClass, classNumber]

theorem edgeArm : Statement .edgeArm := by simp [Statement, encode, Instr.cmdClass, classNumber]

theorem edgeDisarm : Statement .edgeDisarm := by simp [Statement, encode, Instr.cmdClass, classNumber]

theorem lineRead : Statement .lineRead := by simp [Statement, encode, Instr.cmdClass, classNumber]

theorem isrEdge : Statement .isrEdge := by simp [Statement, encode, Instr.cmdClass, classNumber]

theorem isrTimerOvf : Statement .isrTimerOvf := by simp [Statement, encode, Instr.cmdClass, classNumber]

theorem isrSrOvf : Statement .isrSrOvf := by simp [Statement, encode, Instr.cmdClass, classNumber]

theorem timeStep : Statement .timeStep := by simp [Statement, encode, Instr.cmdClass, classNumber]

theorem lineSet (l : Level) : Statement (.lineSet l) := by simp [Statement, encode, Instr.cmdClass, classNumber]

theorem gieSet (g : Bool) : Statement (.gieSet g) := by simp [Statement, encode, Instr.cmdClass, classNumber]

theorem reset : Statement .reset := by simp [Statement, encode, Instr.cmdClass, classNumber]

end ClassField

end Sys2Proof.Laws
end

