-- ==== Sys2Proof/Laws/Safety.lean ====
section
/-! SUPPORT. What a premise over a run says of one step and of the rest of the run. -/

namespace Sys2Proof.Laws

open Sys2Proof.Machine Sys2Proof.Safety

/-- The premise of R394 over a run holds of its first step. -/
theorem farEndSilentWhileTx_first {k : Nat} {s : State} (h : FarEndSilentWhileTx (k + 1) s) : FarEndSilent s := h.1

/-- The premise of R394 over a run holds of the run that is left after the first step. -/
theorem farEndSilentWhileTx_rest {k : Nat} {s t : State} (h : FarEndSilentWhileTx (k + 1) s) (ht : step s = .next t) :
    FarEndSilentWhileTx k t := by
  simpa only [ht] using h.2

/-- Under the premise of R394 no step of the run leaves the block driving against a far end at 0, the faulted state of a
collision included. -/
theorem farEndSilentWhileTx_fault {k : Nat} {s t : State} {c : FaultCode} (h : FarEndSilentWhileTx (k + 1) s)
    (ht : step s = .fault (.raised c t)) : FarEndPresentsOne t := by
  simpa only [ht] using h.2

end Sys2Proof.Laws
end

