-- ==== Sys2Proof/Laws/Step.lean ====
section
/-! SUPPORT. What a command's step and the machine's step can do, said once. -/

namespace Sys2Proof.Laws

open Sys2Proof.Machine

/-- The body of a command's step: what it makes before `settle`. -/
def bodyOf (i : Instr) (s : State) : Except FaultCode State :=
  match i with
  | .initReceiver => initReceiverBody s
  | .transmitByte b => .ok { s with mainPc := .tbSpace (reverseBits b) }
  | .receiveByte => .ok { s with mainPc := .rbWait }
  | .dataAvailable => .ok (s.complete (.bool (!s.isEmpty .rx)))
  | .flushBuffers => flushBuffersBody s
  | .readRxOverflow => .ok (s.complete (.bool s.status.rxOverflow))
  | .clearRxOverflow => .ok (State.complete { s with status := { s.status with rxOverflow := false } } .none)
  | .rbPushTx v => pushBody .tx v s
  | .rbPushRx v => pushBody .rx v s
  | .rbPopTx => popBody .tx s
  | .rbPopRx => popBody .rx s
  | .rbIsEmptyTx => .ok (s.deliver (.bool (s.isEmpty .tx)))
  | .rbIsEmptyRx => .ok (s.deliver (.bool (s.isEmpty .rx)))
  | .rbFlushTx => .ok (rbFlush .tx s)
  | .rbFlushRx => .ok (rbFlush .rx s)
  | .reverseBits b => .ok (s.deliver (.byte (reverseBits b)))
  | .srConfigure m k => .ok (srConfigure m k s)
  | .srSetSeed n => .ok (srSetSeed n s)
  | .srReadData => .ok (s.deliver (.byte s.shift.sr))
  | .srWriteData v => .ok (srWriteData v s)
  | .srEnableOvfIrq e => .ok (srEnableOvfIrq e s)
  | .srClearFlag => .ok (srClearFlag s)
  | .timerWrite v => .ok (timerWrite v s)
  | .timerAdd v => .ok (timerAdd v s)
  | .timerStart => .ok (timerStart s)
  | .timerStop => .ok (timerStop s)
  | .edgeArm => .ok (edgeArm s)
  | .edgeDisarm => .ok (edgeDisarm s)
  | .lineRead => .ok (s.deliver (.bool s.line))
  | .isrEdge => isrEdgeBody (s.enterHandler .edge)
  | .isrTimerOvf => .ok (isrTimerOvfBody (s.enterHandler .timerOvf))
  | .isrSrOvf => isrSrOvfBody (s.enterHandler .srOvf)
  | .timeStep => .ok (countStep { s with time := s.time + 1 })
  | .lineSet l => .ok { s with extLevel := l }
  | .gieSet g => .ok { s with gie := g }
  | .reset => .ok (resetFields s)

/-- The forms of `SR_CONFIGURE` that are refused (R122, R231). -/
def refusedForm : Instr → Bool
  | .srConfigure m k => decide (m = .reserved) || decide (k = .toggle)
  | _ => false

/-- Every command's step is its body followed by `settle`, but for the refused forms. -/
theorem exec_eq_finish (i : Instr) (s : State) (h : refusedForm i = false) : exec i s = finish s (bodyOf i s) := by
  cases i
  case srConfigure m k =>
    simp only [refusedForm, Bool.or_eq_false_iff, decide_eq_false_iff_not] at h
    simp [exec, execSrConfigure, bodyOf, h]
  all_goals rfl

theorem exec_refused (i : Instr) (s : State) (h : refusedForm i = true) : ∃ r, exec i s = refuse r s := by
  cases i
  case srConfigure m k =>
    by_cases hm : m = .reserved
    · exact ⟨_, by simp only [exec, execSrConfigure, if_pos hm]; rfl⟩
    · have hk : k = .toggle := by simpa [refusedForm, hm] using h
      exact ⟨_, by simp only [exec, execSrConfigure, if_neg hm, if_pos hk]; rfl⟩
  all_goals exact absurd h (by simp [refusedForm])

/-- All that a command can be when it completes normally. -/
theorem exec_next {i : Instr} {s t : State} (h : exec i s = .next t) :
    refusedForm i = false ∧ ∃ u, bodyOf i s = .ok u ∧ u.collides = false ∧ t = u.settleEdge := by
  cases hr : refusedForm i
  · rw [exec_eq_finish i s hr] at h
    exact ⟨rfl, finish_next.mp h⟩
  · obtain ⟨r, hx⟩ := exec_refused i s hr
    exact absurd (hx.symm.trans h) (refuse_ne_next r s t)

/-- All the steps that run a command, and the state they run it in. -/
theorem fetchNext_run {s u : State} {i : Instr} (h : fetchNext s = .run i u) :
    s.quiescent = false ∧
      ((i = .timeStep ∧ s.sched = [] ∧ u = s) ∨
       (∃ rest, s.sched = .clock :: rest ∧ i = .timeStep ∧ u = { s with sched := rest }) ∨
       (∃ k rest, s.sched = .handler k :: rest ∧ s.handlerTakeable k = true ∧ i = k.instr ∧
          u = { s with sched := rest }) ∨
       (∃ w rest, s.sched = .env w :: rest ∧ decode w = .instr i ∧ i.cmdClass = .event ∧ i ≠ .timeStep ∧
          u = { s with sched := rest }) ∨
       (∃ q waiting rest, s.sched = .main :: rest ∧ s.mainPc = .ready ∧ s.inbox = q :: waiting ∧
          decode q.word = .instr i ∧ (i.cmdClass = .api ∨ (i.cmdClass ≠ .event ∧ q.issuer = .harness)) ∧
          u = { s with sched := rest, inbox := waiting })) := by
  unfold fetchNext at h
  cases hq : s.quiescent
  · refine ⟨rfl, ?_⟩
    simp only [hq, Bool.false_eq_true, if_false] at h
    cases hs : s.sched with
    | nil => simp only [hs, Fetched.run.injEq] at h; exact .inl ⟨h.1.symm, rfl, h.2.symm⟩
    | cons a rest =>
      simp only [hs] at h
      cases a with
      | clock =>
        simp only [agentFetch, Fetched.run.injEq] at h
        exact .inr (.inl ⟨rest, rfl, h.1.symm, h.2.symm⟩)
      | handler k =>
        simp only [agentFetch] at h
        split at h
        · rename_i ht
          simp only [Fetched.run.injEq] at h
          exact .inr (.inr (.inl ⟨k, rest, rfl, ht, h.1.symm, h.2.symm⟩))
        · exact absurd h (by simp)
      | env w =>
        simp only [agentFetch, envFetch] at h
        cases hd : decode w with
        | invalid e => simp [hd] at h
        | instr j =>
          simp only [hd] at h
          split at h
          · rename_i hc
            simp only [Fetched.run.injEq] at h
            obtain ⟨rfl, rfl⟩ := h
            exact .inr (.inr (.inr (.inl ⟨w, rest, rfl, hd, hc.1, hc.2, rfl⟩)))
          · exact absurd h (by simp)
      | main =>
        simp only [agentFetch, mainFetch] at h
        split at h
        · rename_i hm
          cases hi : s.inbox with
          | nil => simp [hi] at h
          | cons q waiting =>
            simp only [hi, acceptWord] at h
            cases hd : decode q.word with
            | invalid e => simp [hd] at h
            | instr j =>
              simp only [hd] at h
              refine .inr (.inr (.inr (.inr ⟨q, waiting, rest, rfl, hm, rfl, ?_⟩)))
              split at h
              · rename_i hc
                simp only [Fetched.run.injEq] at h
                obtain ⟨rfl, rfl⟩ := h
                exact ⟨hd, .inl hc, rfl⟩
              · split at h
                · exact absurd h (by simp)
                · rename_i hc
                  split at h
                  · rename_i hh
                    simp only [Fetched.run.injEq] at h
                    obtain ⟨rfl, rfl⟩ := h
                    exact ⟨hd, .inr ⟨hc, hh⟩, rfl⟩
                  · exact absurd h (by simp)
        · exact absurd h (by simp)
  · simp [hq] at h

/-- The one step that is a micro-step of `MAIN`. -/
theorem fetchNext_micro {s u : State} (h : fetchNext s = .micro u) :
    s.quiescent = false ∧ ∃ rest, s.sched = .main :: rest ∧ s.mainPc ≠ .ready ∧ u = { s with sched := rest } := by
  unfold fetchNext at h
  cases hq : s.quiescent
  · refine ⟨rfl, ?_⟩
    simp only [hq, Bool.false_eq_true, if_false] at h
    cases hs : s.sched with
    | nil => simp [hs] at h
    | cons a rest =>
      simp only [hs] at h
      cases a with
      | clock => simp [agentFetch] at h
      | handler k => simp only [agentFetch] at h; split at h <;> exact absurd h (by simp)
      | env w =>
        simp only [agentFetch, envFetch] at h
        split at h
        · exact absurd h (by simp)
        · split at h <;> exact absurd h (by simp)
      | main =>
        simp only [agentFetch, mainFetch] at h
        split at h
        · split at h
          · exact absurd h (by simp)
          · unfold acceptWord at h
            split at h
            · exact absurd h (by simp)
            · split at h
              · exact absurd h (by simp)
              · split at h
                · exact absurd h (by simp)
                · split at h <;> exact absurd h (by simp)
        · rename_i hm
          simp only [Fetched.micro.injEq] at h
          exact ⟨rest, rfl, hm, h.symm⟩
  · simp [hq] at h

/-- All that a step can be when it completes normally. -/
theorem step_next {s t : State} (h : step s = .next t) :
    (∃ i u, fetchNext s = .run i u ∧ exec i u = .next t) ∨ ∃ u, fetchNext s = .micro u ∧ microStep u = .next t := by
  unfold step at h
  split at h
  · rename_i i u hf; exact .inl ⟨i, u, hf, h⟩
  · rename_i u hf; exact .inr ⟨u, hf, h⟩
  · exact absurd h (refuse_ne_next _ _ _)
  · exact absurd h (by simp)

end Sys2Proof.Laws
end

