-- ==== Sys2Proof/Laws/Spins.lean ====
section
/-! SUPPORT. The termination of the spins, and where one never ends (46_public_api.md R318), for every endless run
(70_reset_and_hazards.md R396, R397). -/

namespace Sys2Proof.Laws

open Sys2Proof.Machine Sys2Proof.Safety

/-! ### One agent's step while `MAIN` is inside a host command -/

/-- Agent `a`'s step from `s` while `MAINPC` is not `READY`, up to `settle`: its body makes `u`. -/
inductive BusyStep (s : State) : Agent → State → Prop
  | main {u : State} (h : microStepBody s = .ok u) : BusyStep s .main u
  | handler (k : Irq) {u : State} (ht : s.handlerTakeable k = true) (h : bodyOf k.instr s = .ok u) :
    BusyStep s (.handler k) u
  | clock : BusyStep s .clock (countStep { s with time := s.time + 1 })
  | lineSet {w : Word} (l : Level) (h : decode w = .instr (.lineSet l)) : BusyStep s (.env w) { s with extLevel := l }
  | gieSet {w : Word} (g : Bool) (h : decode w = .instr (.gieSet g)) : BusyStep s (.env w) { s with gie := g }
  | reset {w : Word} (h : decode w = .instr .reset) : BusyStep s (.env w) (resetFields s)

/-- All that an agent's step can be while `MAINPC` is not `READY`. -/
theorem agentStep_busy {s t : State} {a : Agent} (hb : s.mainPc ≠ .ready)
    (h : step { s with sched := [a] } = .next t) :
    ∃ u, BusyStep { s with sched := [] } a u ∧ t = u.settleEdge := by
  rcases step_next h with ⟨i, v, hf, hx⟩ | ⟨v, hf, hx⟩
  · obtain ⟨-, u, hu, -, rfl⟩ := exec_next hx
    refine ⟨u, ?_, rfl⟩
    rcases (fetchNext_run hf).2 with ⟨-, hs, -⟩ | ⟨rest, hs, rfl, rfl⟩ | ⟨k, rest, hs, ht, rfl, rfl⟩ |
      ⟨w, rest, hs, hd, hc, hn, rfl⟩ | ⟨q, waiting, rest, -, hm, -⟩
    · simp at hs
    · obtain ⟨rfl, rfl⟩ : a = .clock ∧ rest = [] := by simpa [eq_comm] using hs
      simp only [bodyOf, Except.ok.injEq] at hu
      exact hu ▸ .clock
    · obtain ⟨rfl, rfl⟩ : a = .handler k ∧ rest = [] := by simpa [eq_comm] using hs
      exact .handler k ht hu
    · obtain ⟨rfl, rfl⟩ : a = .env w ∧ rest = [] := by simpa [eq_comm] using hs
      cases i <;> simp only [Instr.cmdClass, reduceCtorEq] at hc <;> simp only [bodyOf, Except.ok.injEq] at hu
      · exact absurd rfl hn
      · exact hu ▸ .lineSet _ hd
      · exact hu ▸ .gieSet _ hd
      · exact hu ▸ .reset hd
    · exact absurd hm hb
  · obtain ⟨-, rest, hs, -, rfl⟩ := fetchNext_micro hf
    obtain ⟨rfl, rfl⟩ : a = .main ∧ rest = [] := by simpa [eq_comm] using hs
    obtain ⟨u, hu, -, rfl⟩ := finish_next.mp hx
    exact ⟨u, .main hu, rfl⟩

/-- One step of an endless run while `MAINPC` is not `READY`. -/
theorem endlessRun_busy {states : Nat → State} {agents : Nat → Agent} {arrivals : Nat → List Request}
    (hr : EndlessRun states agents arrivals) {n : Nat} (hb : (states n).mainPc ≠ .ready) :
    ∃ u q, BusyStep { states n with sched := [] } (agents n) u ∧ states (n + 1) = { u.settleEdge with inbox := q } := by
  obtain ⟨t, ht, hs⟩ := hr n
  obtain ⟨u, hu, rfl⟩ := agentStep_busy hb ht
  exact ⟨u, _, hu, hs⟩

/-- A micro-step that waits on a handler stays (R304, R306, R308). -/
theorem waits_stays {s : State} (h : WaitsOnHandler s) : microStepBody s = .ok s := by
  unfold WaitsOnHandler at h
  cases hm : s.mainPc <;> simp only [hm] at h <;>
    simp [microStepBody, hm, tbSpace, rbPush, tbWaitRx, rbWait, h]

/-! ### A burst is served -/

/-- What holds while a burst is on and `MAIN` waits: the peripheral shifts with the running timer, both burst handlers are
enabled, the edge handler is not, and `MAIN`'s micro-step stays (43_line_arbiter.md R219). -/
structure WaitingBurst (s : State) : Prop where
  waits : WaitsOnHandler s
  mode : s.shift.mode ≠ .off
  clk : s.shift.clk = .timerOvf
  ovfIe : s.shift.ovfIe = true
  run : s.timer.run = true
  timerIe : s.timer.ovfIe = true
  edgeIe : s.edge.ie = false

/-- The waiting words and the schedule are no part of it. -/
theorem WaitingBurst.withInputs {s : State} (h : WaitingBurst s) (q : List Request) (c : List Agent) :
    WaitingBurst { s with inbox := q, sched := c } := ⟨h.1, h.2, h.3, h.4, h.5, h.6, h.7⟩

/-- What is left of a burst: ticks until the counter wraps, then counts until the next tick, where a pending
`ISR_TIMER_OVF` may put a whole turn of the count in between. -/
def burstLeft (s : State) : Nat :=
  (15 - s.shift.cnt.toNat) * 1024 + (if s.timer.ovfFlag then 256 else 0) + (256 - s.timer.tcnt.toNat)

/-- What a waiting spin depends on is the same in both states. -/
structure SameSpin (s t : State) : Prop where
  mainPc : t.mainPc = s.mainPc
  status : t.status = s.status
  tx : t.tx = s.tx
  rx : t.rx = s.rx
  cfg : t.cfg = s.cfg

theorem SameSpin.refl (s : State) : SameSpin s s := ⟨rfl, rfl, rfl, rfl, rfl⟩

theorem SameSpin.trans {s t u : State} (h : SameSpin s t) (k : SameSpin t u) : SameSpin s u :=
  ⟨k.1.trans h.1, k.2.trans h.2, k.3.trans h.3, k.4.trans h.4, k.5.trans h.5⟩

theorem SameSpin.waits {s t : State} (h : SameSpin s t) (hw : WaitsOnHandler s) : WaitsOnHandler t := by
  simpa only [WaitsOnHandler, h.mainPc, h.status, State.isFull, State.isEmpty, State.nextIndex, State.ring, h.tx, h.rx,
    h.cfg] using hw

/-- A count of a burst brings its end nearer, or is its overflow. -/
theorem countStep_burst {s : State} (hm : s.shift.mode ≠ .off) (hc : s.shift.clk = .timerOvf) (hr : s.timer.run = true) :
    (countStep s).shift.ovfFlag = true ∨
      ((countStep s).shift.ovfFlag = s.shift.ovfFlag ∧ burstLeft (countStep s) < burstLeft s) := by
  have hlt := s.timer.tcnt.isLt
  have hcn := s.shift.cnt.isLt
  by_cases h255 : s.timer.tcnt = 255
  · by_cases h15 : s.shift.cnt = 15
    · exact .inl (by simp [countStep, shiftTick, hr, h255, hm, hc, h15])
    · refine .inr ⟨by simp only [countStep, shiftTick, hr, h255, hm, hc, h15, if_true, if_false, ne_eq,
        not_false_eq_true, and_self], ?_⟩
      have hne : s.shift.cnt.toNat ≠ 15 := fun h => h15 (BitVec.eq_of_toNat_eq h)
      have hs : (s.shift.cnt + 1).toNat = s.shift.cnt.toNat + 1 := by
        rw [BitVec.toNat_add]; simp; omega
      simp only [countStep, hr, h255, shiftTick, hm, hc, h15, burstLeft, hs, if_true, if_false, ne_eq, not_false_eq_true,
        and_self]
      simp
      split <;> omega
  · refine .inr ⟨by simp only [countStep, hr, h255, if_true, if_false], ?_⟩
    have hne : s.timer.tcnt.toNat ≠ 255 := fun h => h255 (BitVec.eq_of_toNat_eq h)
    have hs : (s.timer.tcnt + 1).toNat = s.timer.tcnt.toNat + 1 := by
      rw [BitVec.toNat_add]; simp; omega
    simp only [countStep, hr, h255, burstLeft, hs, if_true, if_false]
    omega

/-- Every step of a waiting burst but the overflow handler's keeps it, keeps a pending overflow pending, and, unless
it is the overflow, puts the burst's end no farther off, and a count brings it nearer. -/
theorem waitingBurst_step {s u : State} {a : Agent} (hb : WaitingBurst s) (h : BusyStep s a u)
    (ha : a ≠ .handler .srOvf) (hr : ¬ IsReset a) :
    WaitingBurst u.settleEdge ∧ SameSpin s u.settleEdge ∧
      (s.shift.ovfFlag = true → u.shift.ovfFlag = true) ∧
      (u.shift.ovfFlag = true ∨ (burstLeft u ≤ burstLeft s ∧ (a = .clock → burstLeft u < burstLeft s))) := by
  obtain ⟨hw, hm, hc, ho, hrun, hti, he⟩ := hb
  cases h with
  | main h =>
    rw [waits_stays hw, Except.ok.injEq] at h
    subst h
    exact ⟨⟨hw, hm, hc, ho, hrun, hti, he⟩, ⟨rfl, rfl, rfl, rfl, rfl⟩, id, .inr ⟨le_rfl, by simp⟩⟩
  | handler k ht h =>
    cases k with
    | edge => simp [State.handlerTakeable, State.handlerEnabled, State.interruptEnable, he] at ht
    | srOvf => exact absurd rfl ha
    | timerOvf =>
      simp only [Irq.instr, bodyOf, Except.ok.injEq] at h
      subst h
      have hf : s.timer.ovfFlag = true := by
        simp only [State.handlerTakeable, State.handlerEnabled, State.pending, Bool.and_eq_true] at ht
        exact ht.1.2
      refine ⟨⟨hw, hm, hc, ho, hrun, hti, he⟩, ⟨rfl, rfl, rfl, rfl, rfl⟩, id, .inr ⟨?_, by simp⟩⟩
      have hlt := s.timer.tcnt.isLt
      simp only [burstLeft, isrTimerOvfBody, timerAdd, State.enterHandler, hf, if_true, Bool.false_eq_true, if_false]
      omega
  | clock =>
    obtain ⟨tm, sh, hcs, h1, h2, h3, h4, h5, -⟩ := countStep_shape { s with time := s.time + 1 }
    have hcb := countStep_burst (s := { s with time := s.time + 1 }) hm hc hrun
    rw [hcs] at hcb ⊢
    refine ⟨⟨hw, by simpa [h3] using hm, by simpa [h4] using hc, by simpa [h5] using ho, by simpa [h1] using hrun,
      by simpa [h2] using hti, he⟩, ⟨rfl, rfl, rfl, rfl, rfl⟩, fun hf => ?_, ?_⟩
    · rcases hcb with h | h
      · exact h
      · exact h.1.trans hf
    · rcases hcb with h | h
      · exact .inl h
      · exact .inr ⟨h.2.le, fun _ => h.2⟩
  | lineSet l h => exact ⟨⟨hw, hm, hc, ho, hrun, hti, he⟩, ⟨rfl, rfl, rfl, rfl, rfl⟩, id, .inr ⟨le_rfl, by simp⟩⟩
  | gieSet g h => exact ⟨⟨hw, hm, hc, ho, hrun, hti, he⟩, ⟨rfl, rfl, rfl, rfl, rfl⟩, id, .inr ⟨le_rfl, by simp⟩⟩
  | reset h => exact absurd ⟨_, rfl, h⟩ hr

/-! ### Endless runs -/

section Runs

variable {states : Nat → State} {agents : Nat → Agent} {arrivals : Nat → List Request} {n : Nat}

/-- `MAINPC` names a micro-step in a state where `MAIN` waits. -/
theorem waits_busy {s : State} (h : WaitsOnHandler s) : s.mainPc ≠ .ready := by
  intro hm; simp [WaitsOnHandler, hm] at h

/-- A step that leaves `MAINPC` at a micro-step is no `RESET`. -/
theorem endlessRun_not_reset (hr : EndlessRun states agents arrivals) {m : Nat} (hb : (states m).mainPc ≠ .ready)
    (hb' : (states (m + 1)).mainPc ≠ .ready) : ¬ IsReset (agents m) := by
  rintro ⟨w, ha, hd⟩
  obtain ⟨u, q, hu, hs⟩ := endlessRun_busy hr hb
  rw [ha] at hu
  rw [hs] at hb'
  cases hu with
  | lineSet l h => simp [h] at hd
  | gieSet g h => simp [h] at hd
  | reset h => exact hb' rfl

/-- A waiting burst lasts until the overflow handler runs. -/
theorem waitingBurst_until (hr : EndlessRun states agents arrivals) (hb : WaitingBurst (states n))
    (hpc : ∀ m, n ≤ m → (states m).mainPc = (states n).mainPc) (k : Nat)
    (hk : ∀ m, n ≤ m → m < n + k → agents m ≠ .handler .srOvf) :
    WaitingBurst (states (n + k)) ∧ SameSpin (states n) (states (n + k)) := by
  induction k with
  | zero => exact ⟨hb, .refl _⟩
  | succ k ih =>
    obtain ⟨h1, h2⟩ := ih fun m hm hl => hk m hm (by omega)
    have hbusy := waits_busy h1.waits
    have hnr := endlessRun_not_reset hr (m := n + k) hbusy
      (by rw [hpc _ (by omega)]; exact waits_busy hb.waits)
    obtain ⟨u, q, hu, hs⟩ := endlessRun_busy hr hbusy
    obtain ⟨g1, g2, -, -⟩ := waitingBurst_step (s := { states (n + k) with sched := [] })
      (h1.withInputs _ _) hu (hk _ (by omega) (by omega)) hnr
    rw [← Nat.add_assoc, hs]
    exact ⟨(g1.withInputs _ _),
      h2.trans ⟨g2.mainPc, g2.status, g2.tx, g2.rx, g2.cfg⟩⟩

/-- "`ISR_SR_OVF` is eventually taken": under weak fairness with `GIE = 1` every waiting burst is served (R318). -/
theorem waitingBurst_served (hr : EndlessRun states agents arrivals) (hf : WeaklyFair states agents)
    (hg : GieWhileSpinning true states n) (hb : WaitingBurst (states n))
    (hpc : ∀ m, n ≤ m → (states m).mainPc = (states n).mainPc) :
    ∃ m, n ≤ m ∧ agents m = .handler .srOvf ∧ WaitingBurst (states m) ∧ SameSpin (states n) (states m) := by
  by_cases hex : ∃ k, agents (n + k) = .handler .srOvf
  · refine ⟨n + Nat.find hex, by omega, Nat.find_spec hex, waitingBurst_until hr hb hpc _ fun m hm hl h => ?_⟩
    exact Nat.find_min hex (m := m - n) (by omega) (by rwa [Nat.add_sub_cancel' hm])
  · exfalso
    have hno : ∀ m, n ≤ m → agents m ≠ .handler .srOvf := fun m hm h => hex ⟨m - n, by rwa [Nat.add_sub_cancel' hm]⟩
    have hall : ∀ m, n ≤ m → WaitingBurst (states m) := fun m hm => by
      have := (waitingBurst_until hr hb hpc (m - n) fun j hj _ => hno j hj).1
      rwa [Nat.add_sub_cancel' hm] at this
    have hstep : ∀ m, n ≤ m → ((states m).shift.ovfFlag = true → (states (m + 1)).shift.ovfFlag = true) ∧
        ((states (m + 1)).shift.ovfFlag = true ∨ (burstLeft (states (m + 1)) ≤ burstLeft (states m) ∧
          (agents m = .clock → burstLeft (states (m + 1)) < burstLeft (states m)))) := fun m hm => by
      have h1 := hall m hm
      have hnr := endlessRun_not_reset hr (waits_busy h1.waits) (waits_busy (hall (m + 1) (by omega)).waits)
      obtain ⟨u, q, hu, hs⟩ := endlessRun_busy hr (waits_busy h1.waits)
      obtain ⟨-, -, g3, g4⟩ := waitingBurst_step (s := { states m with sched := [] })
        (h1.withInputs _ _) hu (hno m hm) hnr
      rw [hs]
      exact ⟨g3, g4⟩
    have hflag : ∃ m, n ≤ m ∧ (states m).shift.ovfFlag = true := by
      by_contra hc
      have hfalse : ∀ m, n ≤ m → ¬ (states m).shift.ovfFlag = true := fun m hm h => hc ⟨m, hm, h⟩
      have hle : ∀ m, n ≤ m → burstLeft (states (m + 1)) ≤ burstLeft (states m) ∧
          (agents m = .clock → burstLeft (states (m + 1)) < burstLeft (states m)) := fun m hm =>
        ((hstep m hm).2).resolve_left (hfalse _ (by omega))
      have hmono : ∀ m k, n ≤ m → burstLeft (states (m + k)) ≤ burstLeft (states m) := fun m k hm => by
        induction k with
        | zero => exact le_rfl
        | succ k ih => exact ((hle (m + k) (by omega)).1).trans ih
      have hdown : ∀ p m, n ≤ m → burstLeft (states m) ≤ p → False := fun p => by
        induction p with
        | zero =>
          intro m hm hp
          obtain ⟨j, hj, ha⟩ := hf .clock m fun _ _ => trivial
          have h1 := hmono m (j - m) hm
          have h2 := (hle j (by omega)).2 ha
          rw [Nat.add_sub_cancel' hj] at h1
          omega
        | succ p ih =>
          intro m hm hp
          obtain ⟨j, hj, ha⟩ := hf .clock m fun _ _ => trivial
          have h1 := hmono m (j - m) hm
          have h2 := (hle j (by omega)).2 ha
          rw [Nat.add_sub_cancel' hj] at h1
          exact ih (j + 1) (by omega) (by omega)
      exact hdown _ n le_rfl le_rfl
    obtain ⟨m, hm, hfm⟩ := hflag
    have hstay : ∀ k, (states (m + k)).shift.ovfFlag = true := fun k => by
      induction k with
      | zero => exact hfm
      | succ k ih => exact (hstep (m + k) (by omega)).1 ih
    obtain ⟨j, hj, ha⟩ := hf (.handler .srOvf) m fun j hj => by
      have hpend := hstay (j - m)
      rw [Nat.add_sub_cancel' hj] at hpend
      have hgie := hg j (by omega) (hpc j (by omega))
      simp [Enabled, State.handlerEnabled, State.interruptEnable, State.pending, hgie, hpend,
        (hall j (by omega)).ovfIe]
    exact hno j (by omega) ha

/-! ### `TB_WAIT_RX` -/

/-- No reception is on and none can start until the far end begins a frame: the bit clock and the peripheral are off, and
while the far end holds the line at 0 no edge is pending. `RELEASE_AND_ARM` leaves such a state (43_line_arbiter.md R211). -/
structure QuietLine (s : State) : Prop where
  transfer : s.inTransfer = false
  mode : s.shift.mode = .off
  ovfIe : s.shift.ovfIe = false
  run : s.timer.run = false
  timerIe : s.timer.ovfIe = false
  noEdge : s.extLevel = false → s.edge.flag = false ∧ s.edge.lastLevel = false

/-- The waiting words and the schedule are no part of it. -/
theorem QuietLine.withInputs {s : State} (h : QuietLine s) (q : List Request) (c : List Agent) :
    QuietLine { s with inbox := q, sched := c } := ⟨h.1, h.2, h.3, h.4, h.5, h.6⟩

/-- Every step at `TB_WAIT_RX` but `MAIN`'s keeps the line quiet, where the far end begins no frame. -/
theorem quietLine_step {s u : State} {a : Agent} (hq : QuietLine s) (hpc : s.mainPc = .tbWaitRx) (h : BusyStep s a u)
    (ha : a ≠ .main) (hr : ¬ IsReset a) (hsil : FarEndSilent { s with sched := [a] }) : QuietLine u.settleEdge := by
  obtain ⟨ht, hm, ho, hrun, hti, he⟩ := hq
  have hline : s.line = s.extLevel := by simp [State.line, hm]
  cases h with
  | main h => exact absurd rfl ha
  | handler k hk h =>
    simp only [State.handlerTakeable, State.handlerEnabled, Bool.and_eq_true] at hk
    cases k with
    | timerOvf => simp [State.interruptEnable, hti] at hk
    | srOvf => simp [State.interruptEnable, ho] at hk
    | edge =>
      have hflag : s.edge.flag = true := hk.1.2
      have hext : s.extLevel = true := by
        cases hx : s.extLevel
        · simp [(he hx).1] at hflag
        · rfl
      obtain ⟨-, ⟨rfl, -⟩ | ⟨-, hl⟩⟩ := isrEdgeBody_ok (h : isrEdgeBody (s.enterHandler .edge) = .ok u)
      · exact ⟨ht, hm, ho, hrun, hti, fun hx => absurd hx (by simp [State.settleEdge, State.enterHandler, hext])⟩
      · have : s.line = false := hl
        rw [hline, hext] at this
        exact absurd this (by simp)
  | clock =>
    have : countStep { s with time := s.time + 1 } = { s with time := s.time + 1 } := by simp [countStep, hrun]
    rw [this]
    refine ⟨ht, hm, ho, hrun, hti, fun hx => ?_⟩
    have hx : s.extLevel = false := hx
    obtain ⟨h1, h2⟩ := he hx
    simp [State.settleEdge, State.line, hm, hx, h1, h2]
  | lineSet l h =>
    refine ⟨ht, hm, ho, hrun, hti, fun hx => ?_⟩
    have hl : l = false := hx
    subst hl
    have hext : s.extLevel = false := by
      cases hx : s.extLevel
      · rfl
      · exact absurd ⟨hx, _, [], rfl, h⟩ (hsil.2 ⟨ht, .inr (.inr hpc)⟩)
    obtain ⟨h1, h2⟩ := he hext
    simp [State.settleEdge, State.line, hm, h1, h2]
  | gieSet g h =>
    refine ⟨ht, hm, ho, hrun, hti, fun hx => ?_⟩
    have hx : s.extLevel = false := hx
    obtain ⟨h1, h2⟩ := he hx
    simp [State.settleEdge, State.line, hm, hx, h1, h2]
  | reset h => exact absurd ⟨_, rfl, h⟩ hr

/-- `MAIN`'s `TB_WAIT_RX` step with no reception running ends the spin (R306). -/
theorem tbWaitRx_main_leaves {s u : State} (hpc : s.mainPc = .tbWaitRx) (hrx : s.status.rxPackageActive = false)
    (h : BusyStep s .main u) : u.mainPc = .ready := by
  cases h with
  | main h =>
    have : microStepBody s = .ok ((startTx s).complete .none) := by simp [microStepBody, hpc, tbWaitRx, hrx]
    rw [this, Except.ok.injEq] at h
    subst h
    rfl

/-- The overflow handler's step in a reception leaves a quiet line (44_transport.md R244). -/
theorem reception_end_quiet {s u : State} (htx : s.status.txFromBufferActive = false)
    (h : BusyStep s (.handler .srOvf) u) : QuietLine u.settleEdge := by
  cases h with
  | handler k hk h =>
    rcases isrSrOvfBody_ok (h : isrSrOvfBody (s.enterHandler .srOvf) = .ok u) with
      ⟨h1, -⟩ | ⟨h1, -⟩ | ⟨h1, -⟩ | ⟨-, -, q, o, -, rfl⟩
    · exact absurd (h1 : s.status.txFromBufferActive = true) (by simp [htx])
    · exact absurd (h1 : s.status.txFromBufferActive = true) (by simp [htx])
    · exact absurd (h1 : s.status.txFromBufferActive = true) (by simp [htx])
    · exact ⟨by simp [State.inTransfer, State.settleEdge, htx], by simp [State.settleEdge],
        by simp [State.settleEdge], by simp [State.settleEdge], by simp [State.settleEdge],
        fun hx => by
          have hx : s.extLevel = false := by simpa [State.settleEdge] using hx
          simp [State.settleEdge, State.line, hx]⟩

/-- A step that starts a reception starts a burst that `TB_WAIT_RX` waits for (43_line_arbiter.md R215, R216). -/
theorem reception_start_burst {s u : State} {a : Agent} (hpc : s.mainPc = .tbWaitRx)
    (hrx : s.status.rxPackageActive = false) (h : BusyStep s a u) (hu : u.status.rxPackageActive = true) :
    WaitingBurst u.settleEdge ∧ u.status.txFromBufferActive = false := by
  cases h with
  | main h =>
    have : microStepBody s = .ok ((startTx s).complete .none) := by simp [microStepBody, hpc, tbWaitRx, hrx]
    rw [this, Except.ok.injEq] at h
    subst h
    simp [State.complete, hrx] at hu
  | handler k hk h =>
    cases k with
    | timerOvf =>
      simp only [Irq.instr, bodyOf, Except.ok.injEq] at h
      subst h
      exact absurd (hu : s.status.rxPackageActive = true) (by simp [hrx])
    | edge =>
      obtain ⟨ht, ⟨rfl, -⟩ | ⟨rfl, -⟩⟩ := isrEdgeBody_ok (h : isrEdgeBody (s.enterHandler .edge) = .ok u)
      · exact absurd (hu : s.status.rxPackageActive = true) (by simp [hrx])
      · have ht : s.inTransfer = false := ht
        have hpc' : (s.enterHandler .edge).mainPc = .tbWaitRx := hpc
        refine ⟨⟨by simp [WaitsOnHandler, State.settleEdge, hpc'], by simp [State.settleEdge], by simp [State.settleEdge],
          by simp [State.settleEdge], by simp [State.settleEdge], by simp [State.settleEdge],
          by simp [State.settleEdge]⟩, ?_⟩
        have htx : s.status.txFromBufferActive = false := by
          simp only [State.inTransfer, Bool.or_eq_false_iff] at ht; exact ht.1
        simpa [State.enterHandler] using htx
    | srOvf =>
      rcases isrSrOvfBody_ok (h : isrSrOvfBody (s.enterHandler .srOvf) = .ok u) with
        ⟨-, -, rfl⟩ | ⟨-, -, -, rfl⟩ | ⟨-, -, q, v, rfl⟩ | ⟨-, h1, -⟩
      · simp [State.enterHandler, hrx] at hu
      · simp [State.enterHandler, hrx] at hu
      · simp [State.enterHandler, hrx] at hu
      · exact absurd (h1 : s.status.rxPackageActive = true) (by simp [hrx])
  | clock =>
    rw [countStep_status] at hu
    exact absurd (hu : s.status.rxPackageActive = true) (by simp [hrx])
  | lineSet l h => exact absurd (hu : s.status.rxPackageActive = true) (by simp [hrx])
  | gieSet g h => exact absurd (hu : s.status.rxPackageActive = true) (by simp [hrx])
  | reset h => simp [resetFields] at hu

/-- A spin's `MAIN` step is eventually taken. -/
theorem main_taken (hf : WeaklyFair states agents) (hb : ∀ m, n ≤ m → (states m).mainPc ≠ .ready) {m : Nat}
    (hm : n ≤ m) : ∃ j, m ≤ j ∧ agents j = .main :=
  hf .main m fun j hj => .inl (hb j (by omega))

/-- A spin ends where every step but `MAIN`'s keeps a condition under which `MAIN`'s step leaves: fairness gives `MAIN` its
step, and the condition still holds at the first one. -/
theorem spinEnds_of_kept (hr : EndlessRun states agents arrivals) (hf : WeaklyFair states agents)
    (hb : (states n).mainPc ≠ .ready) {P : State → Prop} (h0 : P (states n))
    (hkeep : ∀ m u q, P (states m) → (states m).mainPc = (states n).mainPc →
      BusyStep { states m with sched := [] } (agents m) u → agents m ≠ .main → ¬ IsReset (agents m) →
      P { u.settleEdge with inbox := q })
    (hleave : ∀ m u, P (states m) → (states m).mainPc = (states n).mainPc →
      BusyStep { states m with sched := [] } .main u → u.mainPc ≠ (states n).mainPc) : SpinEnds states n := by
  by_contra hne
  have hconst : ∀ m, n ≤ m → (states m).mainPc = (states n).mainPc := fun m hm => by
    by_contra h; exact hne ⟨m, hm, h⟩
  have hbusy : ∀ m, n ≤ m → (states m).mainPc ≠ .ready := fun m hm => by rw [hconst m hm]; exact hb
  have hex : ∃ k, agents (n + k) = .main := by
    obtain ⟨j, hj, ha⟩ := main_taken (n := n) hf hbusy le_rfl
    exact ⟨j - n, by rwa [Nat.add_sub_cancel' hj]⟩
  have hall : ∀ k, k ≤ Nat.find hex → P (states (n + k)) := fun k => by
    induction k with
    | zero => exact fun _ => h0
    | succ k ih =>
      intro hk
      obtain ⟨u, q, hu, hs⟩ := endlessRun_busy hr (hbusy (n + k) (by omega))
      rw [← Nat.add_assoc, hs]
      exact hkeep _ u q (ih (by omega)) (hconst _ (by omega)) hu (Nat.find_min hex (by omega))
        (endlessRun_not_reset hr (hbusy _ (by omega)) (hbusy _ (by omega)))
  obtain ⟨u, q, hu, hs⟩ := endlessRun_busy hr (hbusy (n + Nat.find hex) (by omega))
  rw [Nat.find_spec hex] at hu
  have h3 := hconst (n + Nat.find hex + 1) (by omega)
  rw [hs] at h3
  exact hleave _ u (hall _ le_rfl) (hconst _ (by omega)) hu h3

/-- From a quiet line at `TB_WAIT_RX`, `MAIN` gets its step before another reception, and the spin ends. -/
theorem quietLine_ends (hr : EndlessRun states agents arrivals) (hf : WeaklyFair states agents)
    (hsil : FarEndSilentAlong states agents) (hpc : (states n).mainPc = .tbWaitRx) (hq : QuietLine (states n)) :
    SpinEnds states n := by
  refine spinEnds_of_kept hr hf (by simp [hpc]) hq (fun m u q h1 hm hu ha hnr => ?_) fun m u h1 hm hu => ?_
  · have h2 := quietLine_step (s := { states m with sched := [] })
      (h1.withInputs _ _) (hm.trans hpc) hu ha hnr (hsil m)
    exact h2.withInputs _ _
  · have hrx : (states m).status.rxPackageActive = false := by
      have := h1.transfer
      simp only [State.inTransfer, Bool.or_eq_false_iff] at this
      exact this.2
    rw [tbWaitRx_main_leaves (s := { states m with sched := [] }) (hm.trans hpc) hrx hu, hpc]
    simp

/-- The reception that `TB_WAIT_RX` waits for ends, and then the spin. -/
theorem receptionBurst_ends (hr : EndlessRun states agents arrivals) (hf : WeaklyFair states agents)
    (hg : GieWhileSpinning true states n) (hsil : FarEndSilentAlong states agents)
    (hpc : (states n).mainPc = .tbWaitRx) (hb : WaitingBurst (states n))
    (htx : (states n).status.txFromBufferActive = false) : SpinEnds states n := by
  by_contra hne
  have hconst : ∀ m, n ≤ m → (states m).mainPc = (states n).mainPc := fun m hm => by
    by_contra h; exact hne ⟨m, hm, h⟩
  obtain ⟨m, hm, ha, hbm, hsame⟩ := waitingBurst_served hr hf hg hb hconst
  obtain ⟨u, q, hu, hs⟩ := endlessRun_busy hr (waits_busy hbm.waits)
  rw [ha] at hu
  have h1 := reception_end_quiet (s := { states m with sched := [] }) (by simp [hsame.status, htx]) hu
  have hq : QuietLine (states (m + 1)) := by
    rw [hs]; exact h1.withInputs _ _
  obtain ⟨j, hj, hx⟩ := quietLine_ends hr hf hsil ((hconst _ (by omega)).trans hpc) hq
  exact hne ⟨j, by omega, by rwa [hconst (m + 1) (by omega)] at hx⟩

/-- R318: `TB_WAIT_RX` ends, under weak fairness, with `GIE = 1` while it spins, where the far end begins no frame while the
block may start transmitting (70_reset_and_hazards.md R394). -/
theorem tbWaitRx_ends (hr : EndlessRun states agents arrivals) (hf : WeaklyFair states agents)
    (hg : GieWhileSpinning true states n) (hsil : FarEndSilentAlong states agents)
    (hpc : (states n).mainPc = .tbWaitRx) (hinv : ConfigurationInv (states n)) : SpinEnds states n := by
  by_contra hne
  have hconst : ∀ m, n ≤ m → (states m).mainPc = .tbWaitRx := fun m hm => by
    by_contra h; exact hne ⟨m, hm, by rwa [hpc]⟩
  by_cases hex : ∃ k, (states (n + k)).status.rxPackageActive = true
  · have hspec := Nat.find_spec hex
    have hmin := fun k h => Nat.find_min hex (m := k) h
    generalize Nat.find hex = k at hspec hmin
    have hburst : WaitingBurst (states (n + k)) ∧ (states (n + k)).status.txFromBufferActive = false := by
      cases k with
      | zero =>
        obtain ⟨h1, -, h3, -⟩ := hinv
        obtain ⟨g1, g2, g3, g4, g5, g6⟩ := h3 hspec
        refine ⟨⟨by simpa [WaitsOnHandler, hpc] using hspec, by simp [g1], g2, g3, g4, g5, g6⟩, ?_⟩
        cases htx : (states (n + 0)).status.txFromBufferActive
        · rfl
        · exact absurd ⟨htx, hspec⟩ h1
      | succ k =>
        have hrx : (states (n + k)).status.rxPackageActive = false := by simpa using hmin k (by omega)
        have hb : (states (n + k)).mainPc ≠ .ready := by rw [hconst _ (by omega)]; simp
        obtain ⟨u, q, hu, hs⟩ := endlessRun_busy hr hb
        rw [← Nat.add_assoc, hs] at hspec ⊢
        obtain ⟨h1, h2⟩ := reception_start_burst (s := { states (n + k) with sched := [] }) (hconst _ (by omega)) hrx hu
          hspec
        exact ⟨(h1.withInputs _ _), h2⟩
    have hg' : GieWhileSpinning true states (n + k) := fun m hm _ =>
      hg m (by omega) ((hconst m (by omega)).trans hpc.symm)
    obtain ⟨j, hj, hx⟩ := receptionBurst_ends hr hf hg' hsil (hconst _ (by omega)) hburst.1 hburst.2
    exact hx ((hconst j (by omega)).trans (hconst _ (by omega)).symm)
  · obtain ⟨j, hj, ha⟩ := main_taken (n := n) hf (fun m hm => by rw [hconst m hm]; simp) le_rfl
    obtain ⟨u, q, hu, hs⟩ := endlessRun_busy hr (n := j) (by rw [hconst j hj]; simp)
    rw [ha] at hu
    have hrx : (states j).status.rxPackageActive = false := by
      have : ¬ (states j).status.rxPackageActive = true := fun h => hex ⟨j - n, by rwa [Nat.add_sub_cancel' hj]⟩
      simpa using this
    have h2 := tbWaitRx_main_leaves (s := { states j with sched := [] }) (hconst j hj) hrx hu
    have h3 := hconst (j + 1) (by omega)
    rw [hs] at h3
    exact absurd (h2.symm.trans h3) (by simp)

/-! ### `TB_SPACE` -/

/-- The next index of a ring of capacity N is (i + 1) mod N (10_state.md R41). -/
theorem nextIndex_toNat {s : State} (hv : s.cfg.valid = true) (r : RingSel) (i : Byte) :
    2 ≤ s.cfg.capacity r ∧ (s.nextIndex r i).toNat = (i.toNat + 1) % s.cfg.capacity r := by
  have hpow : ∃ k, s.cfg.capacity r = 2 ^ k ∧ 1 ≤ k ∧ k ≤ 8 := by
    have hcap := capacity_cases hv r
    simp only [List.mem_cons, List.not_mem_nil, or_false] at hcap
    rcases hcap with h | h | h | h | h | h | h | h <;> rw [h]
    exacts [⟨1, by decide⟩, ⟨2, by decide⟩, ⟨3, by decide⟩, ⟨4, by decide⟩, ⟨5, by decide⟩, ⟨6, by decide⟩, ⟨7, by decide⟩,
      ⟨8, by decide⟩]
  obtain ⟨k, hk, h1, h8⟩ := hpow
  have hle : 2 ^ k ≤ 2 ^ 8 := Nat.pow_le_pow_right (by omega) h8
  have hge : 2 ^ 1 ≤ 2 ^ k := Nat.pow_le_pow_right (by omega) h1
  have hmask : (s.cfg.mask r).toNat = 2 ^ k - 1 := by
    simp only [Config.mask, BitVec.toNat_ofNat, hk]
    exact Nat.mod_eq_of_lt (by omega)
  refine ⟨by omega, ?_⟩
  rw [State.nextIndex, BitVec.toNat_and, hmask, Nat.and_two_pow_sub_one_eq_mod, BitVec.toNat_add, hk]
  exact Nat.mod_mod_of_dvd _ (Nat.pow_dvd_pow 2 h8)

/-- Indices in range that have the same successor are the same. -/
theorem nextIndex_inj {s : State} (hv : s.cfg.valid = true) (r : RingSel) {i j : Byte}
    (hi : i.toNat < s.cfg.capacity r) (hj : j.toNat < s.cfg.capacity r) (h : s.nextIndex r i = s.nextIndex r j) :
    i = j := by
  apply BitVec.eq_of_toNat_eq
  have heq := congrArg BitVec.toNat h
  rw [(nextIndex_toNat hv r i).2, (nextIndex_toNat hv r j).2] at heq
  generalize s.cfg.capacity r = c at hi hj heq
  by_cases h1 : i.toNat + 1 = c <;> by_cases h2 : j.toNat + 1 = c
  · omega
  · rw [h1, Nat.mod_self, Nat.mod_eq_of_lt (by omega)] at heq; omega
  · rw [h2, Nat.mod_self, Nat.mod_eq_of_lt (by omega)] at heq; omega
  · rw [Nat.mod_eq_of_lt (by omega), Nat.mod_eq_of_lt (by omega)] at heq; omega

/-- No index in range is its own successor: an empty ring is not full. -/
theorem nextIndex_ne {s : State} (hv : s.cfg.valid = true) (r : RingSel) {i : Byte}
    (hi : i.toNat < s.cfg.capacity r) : s.nextIndex r i ≠ i := by
  intro h
  have heq := congrArg BitVec.toNat h
  obtain ⟨h2, hn⟩ := nextIndex_toNat hv r i
  rw [hn] at heq
  generalize s.cfg.capacity r = c at hi heq h2
  by_cases h1 : i.toNat + 1 = c
  · rw [h1, Nat.mod_self] at heq; omega
  · rw [Nat.mod_eq_of_lt (by omega)] at heq; omega

/-- The TX ring has room: its indices are in range, and its next head is not its tail. -/
structure TxRoom (s : State) : Prop where
  valid : s.cfg.valid = true
  head : s.tx.head.toNat < s.cfg.capacity .tx
  tail : s.tx.tail.toNat < s.cfg.capacity .tx
  room : s.isFull .tx = false

/-- The waiting words and the schedule are no part of it. -/
theorem TxRoom.withInputs {s : State} (h : TxRoom s) (q : List Request) (c : List Agent) :
    TxRoom { s with inbox := q, sched := c } := ⟨h.1, h.2, h.3, h.4⟩

/-- All that the overflow handler can do to the TX ring: leave its indices, or take the oldest byte (44_transport.md R242),
which it does while transmitting with no second half pending and a byte held. -/
theorem isrSrOvf_tx {s u : State} (hv : s.cfg.valid = true) (h : isrSrOvfBody s = .ok u) :
    u.cfg = s.cfg ∧ u.tx.head = s.tx.head ∧
      (u.tx.tail = s.tx.tail ∧ ¬ (s.status.txFromBufferActive = true ∧ s.status.txHalfFrameActive = false ∧
          s.isEmpty .tx = false) ∨
        u.tx.tail = s.nextIndex .tx s.tx.tail ∧ s.isEmpty .tx = false) := by
  unfold isrSrOvfBody at h
  split at h
  · split at h
    · rename_i h2
      simp only [Except.ok.injEq] at h
      subst h
      exact ⟨by simp, by simp, .inl ⟨by simp, by simp [h2]⟩⟩
    · split at h
      · rename_i h3
        simp only [Except.ok.injEq] at h
        subst h
        exact ⟨by simp, by simp, .inl ⟨by simp, by simp [h3]⟩⟩
      · rename_i h3
        rcases rbPop_cases hv .tx with ⟨h4, -⟩ | ⟨h4, hp⟩
        · exact absurd h4 h3
        · simp only [loadNextByte, hp, Except.ok.injEq] at h
          subst h
          exact ⟨rfl, rfl, .inr ⟨rfl, h4⟩⟩
  · rename_i h1
    split at h
    · unfold storeReceived at h
      split at h
      · simp at h
      · rename_i hp
        simp only [Except.ok.injEq] at h
        rcases rbPush_ok hp with ⟨h', _⟩ | ⟨_, q, rfl⟩
        · simp at h'
        · subst h
          exact ⟨by simp, by simp [State.setRing], .inl ⟨by simp [State.setRing], fun hc => h1 hc.1⟩⟩
      · rename_i hp
        simp only [Except.ok.injEq] at h
        rcases rbPush_ok hp with ⟨_, rfl⟩ | ⟨h', _⟩
        · subst h
          exact ⟨by simp, by simp, .inl ⟨by simp, fun hc => h1 hc.1⟩⟩
        · simp at h'
    · simp at h

/-- A pop makes room, whatever the ring held (R160, R163). -/
theorem pop_makes_room {s u : State} (hv : s.cfg.valid = true) (hh : s.tx.head.toNat < s.cfg.capacity .tx)
    (ht : s.tx.tail.toNat < s.cfg.capacity .tx) (hc : u.cfg = s.cfg) (h1 : u.tx.head = s.tx.head)
    (h2 : u.tx.tail = s.nextIndex .tx s.tx.tail) (he : s.isEmpty .tx = false) : TxRoom u := by
  refine ⟨by rw [hc, hv], by rw [hc, h1]; exact hh, by rw [hc, h2]; exact nextIndex_lt_capacity hv _ _, ?_⟩
  have hne : s.tx.head ≠ s.tx.tail := by simpa [State.isEmpty, State.ring] using he
  have : s.nextIndex .tx s.tx.head ≠ s.nextIndex .tx s.tx.tail := fun h => hne (nextIndex_inj hv .tx hh ht h)
  simpa [State.isFull, State.ring, State.nextIndex, hc, h1, h2] using this

/-- Every step at `TB_SPACE` but `MAIN`'s leaves the room there is. -/
theorem txRoom_step {s u : State} {a : Agent} (hs : TxRoom s) (h : BusyStep s a u) (ha : a ≠ .main)
    (hr : ¬ IsReset a) : TxRoom u.settleEdge := by
  obtain ⟨hv, hh, ht, hf⟩ := hs
  have same : ∀ t : State, t.cfg = s.cfg → t.tx = s.tx → TxRoom t := fun t h1 h2 =>
    ⟨by rw [h1, hv], by rw [h1, h2]; exact hh, by rw [h1, h2]; exact ht, by
      simpa [State.isFull, State.nextIndex, State.ring, h1, h2] using hf⟩
  cases h with
  | main h => exact absurd rfl ha
  | handler k hk h =>
    cases k with
    | edge =>
      obtain ⟨-, ⟨rfl, -⟩ | ⟨rfl, -⟩⟩ := isrEdgeBody_ok (h : isrEdgeBody (s.enterHandler .edge) = .ok u)
      · exact same _ rfl rfl
      · exact same _ (by simp [State.settleEdge]) (by simp [State.settleEdge])
    | timerOvf =>
      simp only [Irq.instr, bodyOf, Except.ok.injEq] at h
      subst h
      exact same _ rfl rfl
    | srOvf =>
      obtain ⟨h1, h2, ⟨h3, -⟩ | ⟨h3, h4⟩⟩ :=
        isrSrOvf_tx (s := s.enterHandler .srOvf) hv (h : isrSrOvfBody (s.enterHandler .srOvf) = .ok u)
      · have h2 : u.tx.head = s.tx.head := h2
        have h3 : u.tx.tail = s.tx.tail := h3
        have h1 : u.cfg = s.cfg := h1
        refine ⟨by simp [State.settleEdge, h1, hv], by simpa [State.settleEdge, h1, h2] using hh,
          by simpa [State.settleEdge, h1, h3] using ht, ?_⟩
        simpa [State.isFull, State.nextIndex, State.ring, State.settleEdge, h1, h2, h3] using hf
      · exact pop_makes_room (u := u.settleEdge) hv hh ht h1 h2 h3 h4
  | clock => exact same _ (by simp [State.settleEdge]) (by simp [State.settleEdge])
  | lineSet l h => exact same _ rfl rfl
  | gieSet g h => exact same _ rfl rfl
  | reset h => exact absurd ⟨_, rfl, h⟩ hr

/-- `MAIN`'s `TB_SPACE` step with room in the TX ring ends the spin (R304). -/
theorem tbSpace_main_leaves {s u : State} {v : Byte} (hpc : s.mainPc = .tbSpace v) (hs : TxRoom s)
    (h : BusyStep s .main u) : u.mainPc = .tbCheck := by
  cases h with
  | main h =>
    rcases rbPush_cases hs.valid .tx v with ⟨h1, -⟩ | ⟨-, hp⟩
    · exact absurd h1 (by simp [hs.room])
    · simp only [microStepBody, hpc, tbSpace, hp, Except.ok.injEq] at h
      subst h
      rfl

/-- From a state with room at `TB_SPACE`, `MAIN` gets its step, and the spin ends. -/
theorem txRoom_ends (hr : EndlessRun states agents arrivals) (hf : WeaklyFair states agents) {v : Byte}
    (hpc : (states n).mainPc = .tbSpace v) (hroom : TxRoom (states n)) : SpinEnds states n := by
  refine spinEnds_of_kept hr hf (by simp [hpc]) hroom (fun m u q h1 hm hu ha hnr => ?_) fun m u h1 hm hu => ?_
  · have h2 := txRoom_step (s := { states m with sched := [] }) (h1.withInputs _ _) hu ha hnr
    exact h2.withInputs _ _
  · rw [tbSpace_main_leaves (s := { states m with sched := [] }) (hm.trans hpc)
      (h1.withInputs _ _) hu, hpc]
    simp

/-- `MAIN` at `TB_SPACE(v)` waits for a transmission to take a byte from the full TX ring. -/
structure FullSpin (v : Byte) (s : State) : Prop where
  burst : WaitingBurst s
  pc : s.mainPc = .tbSpace v
  active : s.status.txFromBufferActive = true
  valid : s.cfg.valid = true
  head : s.tx.head.toNat < s.cfg.capacity .tx
  tail : s.tx.tail.toNat < s.cfg.capacity .tx
  nonempty : s.isEmpty .tx = false

/-- The waiting words and the schedule are no part of it. -/
theorem FullSpin.withInputs {v : Byte} {s : State} (h : FullSpin v s) (q : List Request) (c : List Agent) :
    FullSpin v { s with inbox := q, sched := c } := ⟨h.1.withInputs q c, h.2, h.3, h.4, h.5, h.6, h.7⟩

/-- It depends on the burst and on what the spin depends on. -/
theorem FullSpin.congr {v : Byte} {s t : State} (h : FullSpin v s) (hb : WaitingBurst t) (hs : SameSpin s t) :
    FullSpin v t :=
  ⟨hb, hs.mainPc.trans h.pc, by rw [hs.status, h.active], by rw [hs.cfg, h.valid], by rw [hs.cfg, hs.tx]; exact h.head,
    by rw [hs.cfg, hs.tx]; exact h.tail, by simpa [State.isEmpty, State.ring, hs.tx] using h.nonempty⟩

/-- The overflow handler's step there: the second half-frame is loaded and the burst goes on, or a byte is taken and there
is room (44_transport.md R241, R242). -/
theorem fullSpin_overflow {s u : State} {v : Byte} (hs : FullSpin v s) (h : BusyStep s (.handler .srOvf) u) :
    TxRoom u.settleEdge ∨
      (s.status.txHalfFrameActive = true ∧ u = loadSecondHalf (s.enterHandler .srOvf) ∧ FullSpin v u.settleEdge) := by
  cases h with
  | handler k hk h =>
    have h : isrSrOvfBody (s.enterHandler .srOvf) = .ok u := h
    cases hhf : s.status.txHalfFrameActive
    · obtain ⟨h1, h2, ⟨-, h3⟩ | ⟨h3, h4⟩⟩ := isrSrOvf_tx (s := s.enterHandler .srOvf) hs.valid h
      · exact absurd ⟨hs.active, hhf, hs.nonempty⟩ h3
      · exact .inl (pop_makes_room (u := u.settleEdge) hs.valid hs.head hs.tail h1 h2 h3 h4)
    · have hu : u = loadSecondHalf (s.enterHandler .srOvf) := by
        simpa [isrSrOvfBody, hs.active, hhf, eq_comm] using h
      refine .inr ⟨rfl, hu, ?_⟩
      subst hu
      have hb := hs.burst
      refine ⟨⟨?_, ?_, ?_, ?_, ?_, ?_, ?_⟩, ?_, ?_, ?_, ?_, ?_, ?_⟩
      · simpa [WaitsOnHandler, State.settleEdge, State.isFull, State.nextIndex, State.ring, hs.pc] using hb.waits
      · simpa [State.settleEdge] using hb.mode
      · simpa [State.settleEdge] using hb.clk
      · simpa [State.settleEdge] using hb.ovfIe
      · simpa [State.settleEdge] using hb.run
      · simpa [State.settleEdge] using hb.timerIe
      · simpa [State.settleEdge] using hb.edgeIe
      · simpa [State.settleEdge] using hs.pc
      · simpa [State.settleEdge] using hs.active
      · simpa [State.settleEdge] using hs.valid
      · simpa [State.settleEdge] using hs.head
      · simpa [State.settleEdge] using hs.tail
      · simpa [State.settleEdge, State.isEmpty, State.ring] using hs.nonempty

/-- The next overflow served there takes a byte, and then the spin ends, or it goes on with the second half-frame. -/
theorem fullSpin_served (hr : EndlessRun states agents arrivals) (hf : WeaklyFair states agents)
    (hg : GieWhileSpinning true states n) {v : Byte} (hs : FullSpin v (states n)) :
    SpinEnds states n ∨ ((states n).status.txHalfFrameActive = true ∧ ∃ m, n ≤ m ∧ FullSpin v (states m) ∧
      (states m).status.txHalfFrameActive = false) := by
  by_contra hne
  rw [not_or] at hne
  obtain ⟨hne, hgo⟩ := hne
  have hconst : ∀ m, n ≤ m → (states m).mainPc = (states n).mainPc := fun m hm => by
    by_contra h; exact hne ⟨m, hm, h⟩
  obtain ⟨m, hm, ha, hbm, hsame⟩ := waitingBurst_served hr hf hg hs.burst hconst
  obtain ⟨u, q, hu, hst⟩ := endlessRun_busy hr (waits_busy hbm.waits)
  rw [ha] at hu
  rcases fullSpin_overflow ((hs.congr hbm hsame).withInputs _ _) hu with h1 | ⟨h1, h2, h3⟩
  · have hroom : TxRoom (states (m + 1)) := by rw [hst]; exact h1.withInputs _ _
    obtain ⟨j, hj, hx⟩ := txRoom_ends hr hf ((hconst (m + 1) (by omega)).trans hs.pc) hroom
    exact hne ⟨j, by omega, by rwa [hconst (m + 1) (by omega)] at hx⟩
  · have h1 : (states m).status.txHalfFrameActive = true := h1
    refine hgo ⟨by rw [← h1, hsame.status], m + 1, by omega, by rw [hst]; exact h3.withInputs _ _, ?_⟩
    rw [hst, h2]
    simp [State.settleEdge]

/-- A transmission whose TX ring is full takes a byte with its next overflow or the one after it, and then the spin
ends. -/
theorem fullSpin_ends (hr : EndlessRun states agents arrivals) (hf : WeaklyFair states agents)
    (hg : GieWhileSpinning true states n) {v : Byte} (hs : FullSpin v (states n)) : SpinEnds states n := by
  rcases fullSpin_served hr hf hg hs with h | ⟨-, m, hm, h1, h2⟩
  · exact h
  · have hpc : (states m).mainPc = (states n).mainPc := h1.pc.trans hs.pc.symm
    rcases fullSpin_served (n := m) hr hf (fun k hk hp => hg k (by omega) (hp.trans hpc)) h1 with ⟨j, hj, hx⟩ | ⟨h3, -⟩
    · exact ⟨j, by omega, by rwa [hpc] at hx⟩
    · exact absurd (h2.symm.trans h3) (by simp)

/-- R318: `TB_SPACE` ends, under weak fairness and with `GIE = 1` while it spins, "because the running transmission pops a
byte". -/
theorem tbSpace_ends (hr : EndlessRun states agents arrivals) (hf : WeaklyFair states agents)
    (hg : GieWhileSpinning true states n) {v : Byte} (hpc : (states n).mainPc = .tbSpace v)
    (hinv : ConfigurationInv (states n)) (hring : RingInv (states n)) (hidle : IdleTxRingInv (states n)) :
    SpinEnds states n := by
  have hv := hring.1
  have hh : (states n).tx.head.toNat < (states n).cfg.capacity .tx := (hring.2 .tx).1.1
  have ht : (states n).tx.tail.toNat < (states n).cfg.capacity .tx := (hring.2 .tx).1.2
  cases hfull : (states n).isFull .tx
  · exact txRoom_ends hr hf hpc ⟨hv, hh, ht, hfull⟩
  · have he : (states n).isEmpty .tx = false := by
      cases h : (states n).isEmpty .tx
      · rfl
      · exfalso
        have h1 : (states n).tx.head = (states n).tx.tail := by simpa [State.isEmpty, State.ring] using h
        have h2 : (states n).nextIndex .tx (states n).tx.head = (states n).tx.tail := by
          simpa [State.isFull, State.ring] using hfull
        rw [← h1] at h2
        exact absurd h2 (nextIndex_ne hv .tx hh)
    have htx : (states n).status.txFromBufferActive = true := by
      rcases hidle with h | h | h | h
      · simp [hpc] at h
      · simp [hpc] at h
      · exact h
      · exact absurd h (by simp [he])
    obtain ⟨-, h2, -⟩ := hinv
    obtain ⟨g1, g2, g3, g4, g5, g6⟩ := h2 htx
    exact fullSpin_ends hr hf hg
      ⟨⟨by simpa [WaitsOnHandler, hpc] using hfull, by simp [g1], g2, g3, g4, g5, g6⟩, hpc, htx, hv, hh, ht, he⟩

/-! ### `RB_WAIT` -/

/-- All that a step at `RB_WAIT` with an empty RX ring can do: stay so, or be the overflow handler's that ends a reception
and stores its byte (R308, 44_transport.md R244). -/
theorem rbWait_step {s u : State} {a : Agent} (hpc : s.mainPc = .rbWait) (he : s.isEmpty .rx = true)
    (h : BusyStep s a u) (hr : ¬ IsReset a) :
    u.mainPc = .rbWait ∧ (u.isEmpty .rx = true ∨ (a = .handler .srOvf ∧ s.status.rxPackageActive = true)) := by
  have hw : WaitsOnHandler s := by simpa [WaitsOnHandler, hpc] using he
  have keep : ∀ t : State, t.rx = s.rx → t.isEmpty .rx = true := fun t ht => by
    simpa [State.isEmpty, State.ring, ht] using he
  cases h with
  | main h =>
    rw [waits_stays hw, Except.ok.injEq] at h
    subst h
    exact ⟨hpc, .inl he⟩
  | handler k hk h =>
    cases k with
    | edge =>
      obtain ⟨-, ⟨rfl, -⟩ | ⟨rfl, -⟩⟩ := isrEdgeBody_ok (h : isrEdgeBody (s.enterHandler .edge) = .ok u)
      · exact ⟨hpc, .inl (keep _ rfl)⟩
      · exact ⟨by simpa using hpc, .inl (keep _ (by simp))⟩
    | timerOvf =>
      simp only [Irq.instr, bodyOf, Except.ok.injEq] at h
      subst h
      exact ⟨hpc, .inl (keep _ rfl)⟩
    | srOvf =>
      rcases isrSrOvfBody_ok (h : isrSrOvfBody (s.enterHandler .srOvf) = .ok u) with
        ⟨-, -, rfl⟩ | ⟨-, -, -, rfl⟩ | ⟨-, -, q, v, rfl⟩ | ⟨-, h1, q, o, -, rfl⟩
      · exact ⟨by simpa using hpc, .inl (keep _ (by simp))⟩
      · exact ⟨by simpa using hpc, .inl (keep _ (by simp))⟩
      · exact ⟨hpc, .inl (keep _ rfl)⟩
      · exact ⟨by simpa using hpc, .inr ⟨rfl, h1⟩⟩
  | clock => exact ⟨by simpa using hpc, .inl (keep _ (by simp))⟩
  | lineSet l h => exact ⟨hpc, .inl (keep _ rfl)⟩
  | gieSet g h => exact ⟨hpc, .inl (keep _ rfl)⟩
  | reset h => exact absurd ⟨_, rfl, h⟩ hr

/-- R318: "`RB_WAIT` ends only if a reception completes": where it has ended and no `RESET` came, some step in between was
the overflow handler's in a reception, and left a byte in the RX ring that was empty. -/
theorem rbWait_ends_only_if_a_reception_completes (hr : EndlessRun states agents arrivals)
    (hpc : (states n).mainPc = .rbWait) (he : (states n).isEmpty .rx = true) (k : Nat)
    (hnr : ∀ j, n ≤ j → j < n + k → ¬ IsReset (agents j)) (hend : (states (n + k)).mainPc ≠ .rbWait) :
    ∃ j, n ≤ j ∧ j < n + k ∧ agents j = .handler .srOvf ∧ (states j).status.rxPackageActive = true ∧
      (states j).isEmpty .rx = true ∧ (states (j + 1)).isEmpty .rx = false := by
  by_contra hno
  have hall : ∀ i, i ≤ k → (states (n + i)).mainPc = .rbWait ∧ (states (n + i)).isEmpty .rx = true := fun i => by
    induction i with
    | zero => exact fun _ => ⟨hpc, he⟩
    | succ i ih =>
      intro hi
      obtain ⟨h1, h2⟩ := ih (by omega)
      obtain ⟨u, q, hu, hs⟩ := endlessRun_busy hr (n := n + i) (by rw [h1]; simp)
      obtain ⟨g1, g2⟩ := rbWait_step (s := { states (n + i) with sched := [] }) h1 h2 hu
        (hnr _ (by omega) (by omega))
      have e1 : (states (n + (i + 1))).mainPc = u.mainPc := by rw [← Nat.add_assoc, hs]; rfl
      have e2 : (states (n + i + 1)).isEmpty .rx = u.isEmpty .rx := by rw [hs]; rfl
      refine ⟨e1.trans g1, ?_⟩
      rw [← Nat.add_assoc, e2]
      rcases g2 with g2 | ⟨ga, gx⟩
      · exact g2
      · cases hx : u.isEmpty .rx
        · exact absurd ⟨n + i, by omega, by omega, ga, gx, h2, e2.trans hx⟩ hno
        · rfl
  exact hend (hall k le_rfl).1

/-- The RX ring holds a byte. -/
structure RxHeld (s : State) : Prop where
  valid : s.cfg.valid = true
  held : s.isEmpty .rx = false

/-- The waiting words and the schedule are no part of it. -/
theorem RxHeld.withInputs {s : State} (h : RxHeld s) (q : List Request) (c : List Agent) :
    RxHeld { s with inbox := q, sched := c } := ⟨h.1, h.2⟩

/-- Every step at `RB_WAIT` but `MAIN`'s leaves the RX ring holding a byte. -/
theorem rxHeld_step {s u : State} {a : Agent} (hs : RxHeld s) (h : BusyStep s a u) (ha : a ≠ .main)
    (hr : ¬ IsReset a) : RxHeld u.settleEdge := by
  obtain ⟨hv, he⟩ := hs
  have same : ∀ t : State, t.cfg = s.cfg → t.rx = s.rx → RxHeld t := fun t h1 h2 =>
    ⟨by rw [h1, hv], by simpa [State.isEmpty, State.ring, h2] using he⟩
  cases h with
  | main h => exact absurd rfl ha
  | handler k hk h =>
    cases k with
    | edge =>
      obtain ⟨-, ⟨rfl, -⟩ | ⟨rfl, -⟩⟩ := isrEdgeBody_ok (h : isrEdgeBody (s.enterHandler .edge) = .ok u)
      · exact same _ rfl rfl
      · exact same _ (by simp [State.settleEdge]) (by simp [State.settleEdge])
    | timerOvf =>
      simp only [Irq.instr, bodyOf, Except.ok.injEq] at h
      subst h
      exact same _ rfl rfl
    | srOvf =>
      have h : isrSrOvfBody (s.enterHandler .srOvf) = .ok u := h
      by_cases htx : s.status.txFromBufferActive = true
      · rcases isrSrOvfBody_ok h with ⟨-, -, rfl⟩ | ⟨-, -, -, rfl⟩ | ⟨-, -, q, v, rfl⟩ | ⟨h1, -⟩
        · exact same _ (by simp [State.settleEdge]) (by simp [State.settleEdge])
        · exact same _ (by simp [State.settleEdge]) (by simp [State.settleEdge])
        · exact same _ rfl rfl
        · exact absurd (h1 : s.status.txFromBufferActive = false) (by simp [htx])
      · unfold isrSrOvfBody at h
        rw [if_neg (by simpa using htx)] at h
        split at h
        · unfold storeReceived at h
          rcases rbPush_cases (s := { s.enterHandler .srOvf with status :=
            { (s.enterHandler .srOvf).status with rxPackageActive := false } }) hv .rx
            (s.enterHandler .srOvf).shift.sr with ⟨-, hp⟩ | ⟨hroom, hp⟩
          · rw [hp] at h
            simp only [Except.ok.injEq] at h
            subst h
            exact same _ (by simp [State.settleEdge]) (by simp [State.settleEdge])
          · rw [hp] at h
            simp only [Except.ok.injEq] at h
            subst h
            refine ⟨by simpa [State.settleEdge] using hv, ?_⟩
            simpa [State.settleEdge, State.isEmpty, State.isFull, State.ring, State.setRing, State.nextIndex] using hroom
        · simp at h
  | clock => exact same _ (by simp [State.settleEdge]) (by simp [State.settleEdge])
  | lineSet l h => exact same _ rfl rfl
  | gieSet g h => exact same _ rfl rfl
  | reset h => exact absurd ⟨_, rfl, h⟩ hr

/-- `MAIN`'s `RB_WAIT` step with a byte in the RX ring ends the spin (R308). -/
theorem rbWait_main_leaves {s u : State} (hpc : s.mainPc = .rbWait) (hs : RxHeld s) (h : BusyStep s .main u) :
    u.mainPc = .ready := by
  cases h with
  | main h =>
    rcases rbPop_cases hs.valid .rx with ⟨h1, -⟩ | ⟨-, hp⟩
    · exact absurd h1 (by simp [hs.held])
    · simp only [microStepBody, hpc, rbWait, hs.held, Bool.false_eq_true, if_false, hp, Except.ok.injEq] at h
      subst h
      rfl

/-- R318: once the RX ring holds a byte `RB_WAIT` ends, under weak fairness, whatever `GIE` holds. -/
theorem rbWait_ends (hr : EndlessRun states agents arrivals) (hf : WeaklyFair states agents)
    (hpc : (states n).mainPc = .rbWait) (hheld : RxHeld (states n)) : SpinEnds states n := by
  refine spinEnds_of_kept hr hf (by simp [hpc]) hheld (fun m u q h1 hm hu ha hnr => ?_) fun m u h1 hm hu => ?_
  · have h2 := rxHeld_step (s := { states m with sched := [] }) (h1.withInputs _ _) hu ha hnr
    exact h2.withInputs _ _
  · rw [rbWait_main_leaves (s := { states m with sched := [] }) (hm.trans hpc) (h1.withInputs _ _) hu, hpc]
    simp

/-! ### How many ticks a spin lasts -/

/-- The ticks until the counter's overflow, none while one is pending. -/
def overflowTicks (s : State) : Nat := if s.shift.ovfFlag then 0 else 16 - s.shift.cnt.toNat

/-- The ticks until a byte is taken: to the overflow, and 5 more while the first half-frame is on the wire. -/
def popTicks (s : State) : Nat := overflowTicks s + if s.status.txHalfFrameActive then 5 else 0

/-- The tick of an agent's step, as a number. -/
def tickOf (s : State) (a : Agent) : Nat := if a = .clock ∧ s.timer.run = true ∧ s.timer.tcnt = 255 then 1 else 0

/-- In a waiting burst every tick that finds no overflow pending brings the overflow one tick nearer, and no other step
but the overflow handler's puts it farther off. -/
theorem overflowTicks_step {s u : State} {a : Agent} (hb : WaitingBurst s) (h : BusyStep s a u)
    (ha : a ≠ .handler .srOvf) (hr : ¬ IsReset a)
    (ht : a = .clock → s.timer.run = true → s.timer.tcnt = 255 → s.shift.ovfFlag = false) :
    tickOf s a + overflowTicks u ≤ overflowTicks s := by
  have hcn := s.shift.cnt.isLt
  cases h with
  | main h =>
    rw [waits_stays hb.waits, Except.ok.injEq] at h
    subst h
    simp [tickOf]
  | handler k hk h =>
    cases k with
    | edge => simp [State.handlerTakeable, State.handlerEnabled, State.interruptEnable, hb.edgeIe] at hk
    | srOvf => exact absurd rfl ha
    | timerOvf =>
      simp only [Irq.instr, bodyOf, Except.ok.injEq] at h
      subst h
      simp only [tickOf, overflowTicks, reduceCtorEq, false_and, if_false, Nat.zero_add]
      exact le_rfl
  | clock =>
    by_cases h255 : s.timer.tcnt = 255
    · have hf := ht rfl hb.run h255
      by_cases h15 : s.shift.cnt = 15
      · simp only [countStep, shiftTick, hb.run, h255, hb.clk, hb.mode, h15, hf, overflowTicks, tickOf, if_true, ne_eq,
          not_false_eq_true, and_self, Bool.false_eq_true, if_false]
        decide
      · have hne : s.shift.cnt.toNat ≠ 15 := fun h => h15 (BitVec.eq_of_toNat_eq h)
        have hs : (s.shift.cnt + 1).toNat = s.shift.cnt.toNat + 1 := by
          rw [BitVec.toNat_add]; simp; omega
        simp only [countStep, shiftTick, hb.run, h255, hb.clk, hb.mode, h15, hf, overflowTicks, tickOf, hs, if_true, ne_eq,
          not_false_eq_true, and_self, Bool.false_eq_true, if_false]
        omega
    · simp only [countStep, hb.run, h255, overflowTicks, tickOf, if_true, if_false, and_false]
      omega
  | lineSet l h => simp [tickOf, overflowTicks]
  | gieSet g h => simp [tickOf, overflowTicks]
  | reset h => exact absurd ⟨_, rfl, h⟩ hr

/-- R318: "a reception ends after 9 ticks". While `TB_WAIT_RX` waits for one reception, its overflows served in time, no more
ticks pass than its counter has left, and the seed leaves 9. -/
theorem tbWaitRx_within_nine_ticks (hr : EndlessRun states agents arrivals)
    (htime : OverflowsServedInTime states agents) (hb : WaitingBurst (states n))
    (htx : (states n).status.txFromBufferActive = false) (hseed : overflowTicks (states n) ≤ 9) (k : Nat)
    (hspin : ∀ m, n ≤ m → m ≤ n + k → (states m).mainPc = .tbWaitRx ∧ (states m).status.rxPackageActive = true) :
    ticksIn states agents n k ≤ 9 := by
  suffices h : ∀ i, i ≤ k → WaitingBurst (states (n + i)) ∧ (states (n + i)).status.txFromBufferActive = false ∧
      ticksIn states agents n i + overflowTicks (states (n + i)) ≤ overflowTicks (states n) by
    have := (h k le_rfl).2.2; omega
  intro i
  induction i with
  | zero => exact fun _ => ⟨hb, htx, by simp [ticksIn]⟩
  | succ i ih =>
    intro hi
    obtain ⟨h1, h2, h3⟩ := ih (by omega)
    have hnr := endlessRun_not_reset hr (m := n + i) (waits_busy h1.waits)
      (by rw [(hspin (n + i + 1) (by omega) (by omega)).1]; simp)
    obtain ⟨u, q, hu, hs⟩ := endlessRun_busy hr (waits_busy h1.waits)
    have hb1 : WaitingBurst { states (n + i) with sched := [] } :=
      (h1.withInputs _ _)
    have ha : agents (n + i) ≠ .handler .srOvf := fun ha => by
      rw [ha] at hu
      have hq := reception_end_quiet (s := { states (n + i) with sched := [] }) h2 hu
      have h5 := (hspin (n + i + 1) (by omega) (by omega)).2
      rw [hs] at h5
      have h6 := hq.transfer
      simp only [State.inTransfer, Bool.or_eq_false_iff] at h6
      exact absurd (h6.2.symm.trans h5) (by simp)
    obtain ⟨g1, g2, -, -⟩ := waitingBurst_step hb1 hu ha hnr
    have g3 := overflowTicks_step hb1 hu ha hnr fun c1 c2 c3 => htime (n + i) ⟨c1, c2, c3⟩
    rw [← Nat.add_assoc, hs]
    refine ⟨(g1.withInputs _ _), by rw [← h2, g2.status], ?_⟩
    change ticksIn states agents n i + tickOf { states (n + i) with sched := [] } (agents (n + i)) + overflowTicks u ≤ _
    have h3' : ticksIn states agents n i + overflowTicks { states (n + i) with sched := [] } ≤ _ := h3
    omega

/-- R318: "the running transmission pops a byte within 10 ticks". While `TB_SPACE` finds the TX ring full, overflows served in
time, no more ticks pass than the two half-frames have left, and their seeds leave 10. -/
theorem tbSpace_within_ten_ticks (hr : EndlessRun states agents arrivals)
    (htime : OverflowsServedInTime states agents) {v : Byte} (hfull : FullSpin v (states n))
    (hseed : popTicks (states n) ≤ 10) (k : Nat)
    (hspin : ∀ m, n ≤ m → m ≤ n + k → (states m).mainPc = .tbSpace v ∧ (states m).isFull .tx = true) :
    ticksIn states agents n k ≤ 10 := by
  suffices h : ∀ i, i ≤ k → FullSpin v (states (n + i)) ∧
      ticksIn states agents n i + popTicks (states (n + i)) ≤ popTicks (states n) by
    have := (h k le_rfl).2; omega
  intro i
  induction i with
  | zero => exact fun _ => ⟨hfull, by simp [ticksIn]⟩
  | succ i ih =>
    intro hi
    obtain ⟨h1, h3⟩ := ih (by omega)
    have hw := waits_busy h1.burst.waits
    have hnr := endlessRun_not_reset hr (m := n + i) hw
      (by rw [(hspin (n + i + 1) (by omega) (by omega)).1]; simp)
    obtain ⟨u, q, hu, hs⟩ := endlessRun_busy hr hw
    have h3' : ticksIn states agents n i + popTicks { states (n + i) with sched := [] } ≤ _ := h3
    by_cases ha : agents (n + i) = .handler .srOvf
    · rw [ha] at hu
      have hflag : (states (n + i)).shift.ovfFlag = true := by
        cases hu with
        | handler k hk h =>
          simp only [State.handlerTakeable, State.handlerEnabled, State.pending, Bool.and_eq_true] at hk
          exact hk.1.2
      rcases fullSpin_overflow (h1.withInputs _ _) hu with g1 | ⟨g1, g2, g3⟩
      · have h6 := (hspin (n + i + 1) (by omega) (by omega)).2
        rw [hs] at h6
        exact absurd (g1.room.symm.trans h6) (by simp)
      · rw [← Nat.add_assoc, hs]
        refine ⟨g3.withInputs _ _, ?_⟩
        have hp : popTicks { u.settleEdge with inbox := q } ≤ 5 := by
          subst g2
          simp [popTicks, overflowTicks, State.settleEdge, seedTx]
        have hq : popTicks { states (n + i) with sched := [] } = 5 := by
          have g1 : (states (n + i)).status.txHalfFrameActive = true := g1
          simp [popTicks, overflowTicks, hflag, g1]
        have htick : ticksIn states agents n (i + 1) = ticksIn states agents n i := by simp [ticksIn, ha]
        omega
    · have hb1 : WaitingBurst { states (n + i) with sched := [] } := h1.burst.withInputs _ _
      obtain ⟨g1, g2, -, -⟩ := waitingBurst_step hb1 hu ha hnr
      have g3 := overflowTicks_step hb1 hu ha hnr fun c1 c2 c3 => htime (n + i) ⟨c1, c2, c3⟩
      rw [← Nat.add_assoc, hs]
      refine ⟨((h1.withInputs _ _).congr g1 g2).withInputs _ _, ?_⟩
      have hst : u.status = (states (n + i)).status := g2.status
      change ticksIn states agents n i + tickOf { states (n + i) with sched := [] } (agents (n + i)) + popTicks u ≤ _
      have hp : popTicks u = overflowTicks u + if (states (n + i)).status.txHalfFrameActive then 5 else 0 := by
        rw [popTicks, hst]
      have hq : popTicks { states (n + i) with sched := [] } = overflowTicks { states (n + i) with sched := [] } +
          if (states (n + i)).status.txHalfFrameActive then 5 else 0 := rfl
      omega

/-! ### `GIE = 0` -/

/-- With `GIE = 0` every step but `RESET` leaves a waiting spin as it is. -/
theorem gieOff_step {s u : State} {a : Agent} (hw : WaitsOnHandler s) (hg : s.gie = false) (h : BusyStep s a u)
    (hr : ¬ IsReset a) : SameSpin s u := by
  cases h with
  | main h =>
    rw [waits_stays hw, Except.ok.injEq] at h
    subst h
    exact .refl s
  | handler k hk h => simp [State.handlerTakeable, State.handlerEnabled, hg] at hk
  | clock => exact ⟨by simp, by simp, by simp, by simp, by simp⟩
  | lineSet l h => exact ⟨rfl, rfl, rfl, rfl, rfl⟩
  | gieSet g h => exact ⟨rfl, rfl, rfl, rfl, rfl⟩
  | reset h => exact absurd ⟨_, rfl, h⟩ hr

/-- R318: "With `GIE = 0`, a spin that waits on a handler never ends" (but by a `RESET`), fairness or not. -/
theorem gieOff_spin_never_ends (hr : EndlessRun states agents arrivals) (hw : WaitsOnHandler (states n))
    (hg : GieWhileSpinning false states n) (hnr : ∀ m, n ≤ m → ¬ IsReset (agents m)) : ¬ SpinEnds states n := by
  have hall : ∀ k, SameSpin (states n) (states (n + k)) := fun k => by
    induction k with
    | zero => exact .refl _
    | succ k ih =>
      have hwk := ih.waits hw
      obtain ⟨u, q, hu, hs⟩ := endlessRun_busy hr (waits_busy hwk)
      have h := gieOff_step (s := { states (n + k) with sched := [] }) hwk (hg _ (by omega) ih.mainPc) hu
        (hnr _ (by omega))
      rw [← Nat.add_assoc, hs]
      exact ih.trans ⟨h.mainPc, h.status, h.tx, h.rx, h.cfg⟩
  rintro ⟨m, hm, hx⟩
  have := (hall (m - n)).mainPc
  rw [Nat.add_sub_cancel' hm] at this
  exact hx this

end Runs

end Sys2Proof.Laws
end

