-- ==== Sys2Proof/Tests/Slice0.lean ====
section
/-! SUPPORT. Tests. Expected values come from spec/95_test_vectors.md (the section is named) and from the examples of
the rules; the words from 30_encoding.md R112 to R119. The witnesses at the end show that the hypotheses of each statement
can be met together. -/

namespace Sys2Proof.Tests

open Sys2Proof.Machine Sys2Proof.Safety Sys2Proof.Claims

/-- What `f` reads in the next state of an outcome. -/
def after (o : Outcome) {α : Type} (f : State → α) : Option α :=
  match o with
  | .next t => some (f t)
  | .fault _ => none
  | .refused _ => none

/-- The code of a fault. -/
def faultCode (o : Outcome) : Option FaultCode :=
  match o with
  | .fault (.raised c _) => some c
  | .fault .quiescent => none
  | .fault .noAgentStep => none
  | .next _ => none
  | .refused _ => none

/-- The reason of a refusal. -/
def refusalReason (o : Outcome) : Option RefusalReason :=
  match o with
  | .refused (.refusedStep r _) => some r
  | .refused (.notModelled _) => none
  | .next _ => none
  | .fault _ => none

/-! ### Small states -/

/-- The launch state with interrupts enabled. -/
def idle : State := { State.reset with gie := true }

/-- Armed and idle. -/
def armed : State := { idle with edge := { ie := true, flag := false, lastLevel := true } }

/-- The shift register with given contents, counter and mode, everything else off. -/
def withShift (sr : Byte) (cnt : Nibble) (mode : SrMode) : State :=
  { State.reset with shift := { sr := sr, cnt := cnt, mode := mode, clk := .timerOvf, ovfIe := false, ovfFlag := false } }

/-- The timer running at a count. -/
def running (tcnt : Byte) (s : State) : State :=
  { s with timer := { tcnt := tcnt, run := true, ovfIe := true, ovfFlag := false } }

/-- Transmitting, the first or the second half-frame on the wire, one overflow pending. -/
def transmitting (half : Bool) (inflight : Byte) (tx : RingBuffer) : State :=
  { running 0 idle with
    status := { txFromBufferActive := true, txHalfFrameActive := half, rxPackageActive := false, rxOverflow := false }
    inflight := inflight
    tx := tx
    shift := { sr := 0xFF, cnt := 0, mode := .output, clk := .timerOvf, ovfIe := true, ovfFlag := true } }

/-- Receiving, the burst complete. -/
def receiving (sr : Byte) (rx : RingBuffer) : State :=
  { running 0 idle with
    status := { txFromBufferActive := false, txHalfFrameActive := false, rxPackageActive := true, rxOverflow := false }
    rx := rx
    shift := { sr := sr, cnt := 0, mode := .input, clk := .timerOvf, ovfIe := true, ovfFlag := true } }

/-- An empty ring. -/
def empty : RingBuffer := { head := 0, tail := 0, buf := [] }

/-- A ring holding one byte in slot 1. -/
def one (v : Byte) : RingBuffer := { head := 1, tail := 0, buf := [(1, v)] }

/-- A full TX ring of capacity 4. -/
def fullTx : RingBuffer := { head := 3, tail := 0, buf := [(1, 0xA1), (2, 0xA2), (3, 0xA3)] }

/-- A ring at given indices with nothing written. -/
def ringAt (head tail : Byte) : RingBuffer := { head := head, tail := tail, buf := [] }

/-! ### Well-formedness and configurations -/

theorem test_wf_refuses_the_reserved_mode :
    Instr.wf (.srConfigure .reserved .timerOvf) = false ∧ Instr.wf (.srConfigure .reserved .toggle) = false ∧
    Instr.wf (.srConfigure .input .toggle) = true := by decide

/-- A configuration of the table of section 2.7. -/
def config (fCpu prescaler baud nTx nRx dEntry : Nat) : Config :=
  { fCpu := fCpu, prescaler := prescaler, baud := baud, nTx := nTx, nRx := nRx, dEntry := dEntry }

theorem test_config_accepted :
    (config 1000000 1 9600 4 16 17).valid = true ∧ (config 8000000 8 9600 4 16 17).valid = true ∧
    (config 1000000 1 4800 4 16 17).valid = true ∧ (config 16000000 8 9600 4 16 17).valid = true ∧
    (config 1000000 1 115200 4 16 3).valid = true := by decide

theorem test_config_refused :
    (config 16000000 1 9600 4 16 17).valid = false ∧ (config 1000000 1 115200 4 16 17).valid = false ∧
    (config 1000000 1 9600 12 16 17).valid = false ∧ (config 1000000 1 9600 1 16 17).valid = false ∧
    (config 1000000 1 9600 4 512 17).valid = false ∧ (config 1000000 1 600000 4 16 0).valid = false := by decide

/-- Section 2.7, and R12. -/
theorem test_config_constants :
    Config.example12.bitPeriod = 104 ∧ Config.example12.halfPeriod = 52 ∧ Config.example12.reloadSteady = 0x98 ∧
    Config.example12.reloadInitial = 0xDD ∧ (config 1000000 1 4800 4 16 17).reloadSteady = 48 ∧
    (config 1000000 1 4800 4 16 17).reloadInitial = 169 ∧ (config 1000000 1 115200 4 16 3).reloadSteady = 248 ∧
    (config 1000000 1 115200 4 16 3).reloadInitial = 255 := by decide

/-! ### Decoding -/

/-- R112. -/
theorem test_decode_api :
    decode 0x0100 = .instr .initReceiver ∧ decode 0x0241 = .instr (.transmitByte 0x41) ∧
    decode 0x0300 = .instr .receiveByte ∧ decode 0x0400 = .instr .dataAvailable ∧
    decode 0x0500 = .instr .flushBuffers ∧ decode 0x0600 = .instr .readRxOverflow ∧
    decode 0x0700 = .instr .clearRxOverflow := by decide

/-- R113, R114. -/
theorem test_decode_rings_and_codec :
    decode 0x10A1 = .instr (.rbPushTx 0xA1) ∧ decode 0x115A = .instr (.rbPushRx 0x5A) ∧
    decode 0x1200 = .instr .rbPopTx ∧ decode 0x1300 = .instr .rbPopRx ∧ decode 0x1400 = .instr .rbIsEmptyTx ∧
    decode 0x1500 = .instr .rbIsEmptyRx ∧ decode 0x1600 = .instr .rbFlushTx ∧ decode 0x1700 = .instr .rbFlushRx ∧
    decode 0x2041 = .instr (.reverseBits 0x41) := by decide

/-- R115. -/
theorem test_decode_shift_register :
    decode 0x3001 = .instr (.srConfigure .output .timerOvf) ∧ decode 0x3006 = .instr (.srConfigure .input .toggle) ∧
    decode 0x310B = .instr (.srSetSeed 11) ∧ decode 0x3200 = .instr .srReadData ∧
    decode 0x33A0 = .instr (.srWriteData 0xA0) ∧ decode 0x3401 = .instr (.srEnableOvfIrq true) ∧
    decode 0x3400 = .instr (.srEnableOvfIrq false) ∧ decode 0x3500 = .instr .srClearFlag := by decide

/-- R116, R117, R118. -/
theorem test_decode_timer_edge_handlers :
    decode 0x40DD = .instr (.timerWrite 0xDD) ∧ decode 0x4198 = .instr (.timerAdd 0x98) ∧
    decode 0x4200 = .instr .timerStart ∧ decode 0x4300 = .instr .timerStop ∧ decode 0x5000 = .instr .edgeArm ∧
    decode 0x5100 = .instr .edgeDisarm ∧ decode 0x5200 = .instr .lineRead ∧ decode 0x6000 = .instr .isrEdge ∧
    decode 0x6100 = .instr .isrTimerOvf ∧ decode 0x6200 = .instr .isrSrOvf := by decide

/-- R119. -/
theorem test_decode_events :
    decode 0x7000 = .instr .timeStep ∧ decode 0x7100 = .instr (.lineSet false) ∧
    decode 0x7101 = .instr (.lineSet true) ∧ decode 0x7201 = .instr (.gieSet true) ∧
    decode 0x7F00 = .instr .reset := by decide

/-- Section 2.11: refused words, each beside its nearest accepted one above. -/
theorem test_decode_refuses :
    decode 0x8000 = .invalid .reservedClass ∧ decode 0xF241 = .invalid .reservedClass ∧
    decode 0x0000 = .invalid .reservedOp ∧ decode 0x0101 = .invalid .mustBeZero ∧
    decode 0x3003 = .invalid .reservedMode ∧ decode 0x3008 = .invalid .mustBeZero ∧
    decode 0x3110 = .invalid .mustBeZero ∧ decode 0x3402 = .invalid .mustBeZero ∧
    decode 0x7300 = .invalid .reservedOp := by decide

theorem test_decode_table_word :
    decodeTableWord 16 0x0241 = some (.transmitByte 0x41) ∧ decodeTableWord 16 0x8000 = none := by decide

/-- No two rows of the opcode table overlap: some bit that both fix differs. -/
theorem test_rows_do_not_overlap :
    opcodeRows.Pairwise (fun a b => a.pattern &&& b.mask ≠ b.pattern &&& a.mask) := by decide

/-! ### Host commands (section 2.10) -/

/-- A1. -/
theorem test_init_receiver :
    after (exec .initReceiver State.reset) (fun t => (t.edge, t.ret, t.mainPc)) =
      some ({ ie := true, flag := false, lastLevel := true }, .none, .ready) := by decide

/-- A12. -/
theorem test_init_receiver_faults :
    faultCode (exec .initReceiver (receiving 0x82 empty)) = some .initDuringTransfer := by decide

/-- A3. -/
theorem test_transmit_byte : after (exec (.transmitByte 0x41) idle) (fun t => t.mainPc) = some (.tbSpace 0x82) := by decide

theorem test_receive_byte : after (exec .receiveByte idle) (fun t => t.mainPc) = some .rbWait := by decide

/-- A8, A9. -/
theorem test_data_available :
    after (exec .dataAvailable idle) (fun t => t.ret) = some (.bool false) ∧
    after (exec .dataAvailable { idle with rx := ringAt 6 5 }) (fun t => (t.ret, t.rx)) =
      some (.bool true, ringAt 6 5) := by decide

/-- A10. -/
theorem test_flush_buffers :
    after (exec .flushBuffers { idle with rx := ringAt 3 1 })
      (fun t => (t.tx.head, t.tx.tail, t.rx.head, t.rx.tail, t.ret)) = some (0, 0, 0, 0, .none) := by decide

/-- A11. -/
theorem test_flush_buffers_faults :
    faultCode (exec .flushBuffers (transmitting true 0x82 empty)) = some .flushDuringTransfer := by decide

/-- The latched flag set. -/
def overflowed : State := { idle with status := { idle.status with rxOverflow := true } }

/-- A13. -/
theorem test_read_rx_overflow :
    after (exec .readRxOverflow overflowed) (fun t => (t.ret, t.status.rxOverflow)) = some (.bool true, true) := by decide

/-- A14. -/
theorem test_clear_rx_overflow :
    after (exec .clearRxOverflow overflowed) (fun t => (t.ret, t.status.rxOverflow)) = some (.none, false) := by decide

/-! ### Micro-steps (section 2.10, A3, A4, A6) -/

theorem test_tb_space_pushes :
    after (microStep { idle with mainPc := .tbSpace 0x82 }) (fun t => (t.tx, t.mainPc)) =
      some (one 0x82, .tbCheck) := by decide

theorem test_tb_space_stays_when_full :
    after (microStep { idle with mainPc := .tbSpace 0xAA, tx := fullTx }) (fun t => (t.tx, t.mainPc)) =
      some (fullTx, .tbSpace 0xAA) := by decide

theorem test_tb_check : after (microStep { idle with mainPc := .tbCheck }) (fun t => t.mainPc) = some .tbWaitRx := by decide

theorem test_tb_wait_rx_starts :
    after (microStep { idle with mainPc := .tbWaitRx }) (fun t => (t.timer.tcnt, t.shift.sr, t.shift.cnt, t.line, t.mainPc)) =
      some (152, 0xFF, 15, true, .ready) := by decide

theorem test_rb_wait :
    after (microStep { idle with mainPc := .rbWait, rx := one 0x82 }) (fun t => (t.ret, t.rx.tail, t.mainPc)) =
      some (.byte 0x41, 1, .ready) := by decide

/-! ### Rings and codec (sections 2.1, 2.3) -/

/-- Sequence R1, rows 2 and 8: a push, and the head's wrap. -/
theorem test_rb_push_tx :
    after (exec (.rbPushTx 0xA1) idle) (fun t => (t.tx, t.ret)) = some (one 0xA1, .bool true) ∧
    after (exec (.rbPushTx 0xA4) { idle with tx := { fullTx with tail := 1 } }) (fun t => (t.tx, t.ret)) =
      some ({ head := 0, tail := 1, buf := [(0, 0xA4), (1, 0xA1), (2, 0xA2), (3, 0xA3)] }, .bool true) := by decide

/-- Sequence R3: 15 of 16 slots used, the push is false. -/
theorem test_rb_push_rx_full :
    after (exec (.rbPushRx 0x5A) { idle with rx := ringAt 15 0 }) (fun t => (t.rx, t.ret)) =
      some (ringAt 15 0, .bool false) := by decide

/-- Sequence R1, row 11: the tail's wrap. -/
theorem test_rb_pop_tx :
    after (exec .rbPopTx { idle with tx := { head := 0, tail := 3, buf := [(0, 0xA4)] } }) (fun t => (t.tx.tail, t.ret)) =
      some (0, .byte 0xA4) := by decide

/-- Sequence R1, row 13. -/
theorem test_rb_pop_rx :
    after (exec .rbPopRx { idle with rx := one 0x82 }) (fun t => (t.rx.head, t.rx.tail, t.ret)) = some (1, 1, .byte 0x82) ∧
    faultCode (exec .rbPopRx idle) = some .popEmpty := by decide

/-- The example of R166. -/
theorem test_rb_is_empty :
    after (exec .rbIsEmptyRx { idle with rx := ringAt 5 5 }) (fun t => t.ret) = some (.bool true) ∧
    after (exec .rbIsEmptyTx { idle with tx := fullTx }) (fun t => t.ret) = some (.bool false) := by decide

/-- The flush vectors: the slots are kept. -/
theorem test_rb_flush :
    after (exec .rbFlushTx { idle with tx := { fullTx with tail := 1 } }) (fun t => t.tx) =
      some { fullTx with head := 0, tail := 0 } ∧
    after (exec .rbFlushRx { idle with rx := ringAt 2 2 }) (fun t => t.rx) = some (ringAt 0 0) := by decide

theorem test_reverse_bits :
    after (exec (.reverseBits 0x41) idle) (fun t => t.ret) = some (.byte 0x82) ∧ reverseBits 0x12 = 0x48 ∧
    reverseBits 0xC8 = 0x13 ∧ reverseBits 0x42 = 0x42 := by decide

/-- Section 2.4. -/
theorem test_half_frames :
    halfFrame1 0x82 = 0xA0 ∧ halfFrame2 0x82 = 0x17 ∧ halfFrame1 0x48 = 0x92 ∧ halfFrame2 0x48 = 0x47 := by decide

/-! ### Shift register (section 2.6) -/

theorem test_sr_configure :
    after (exec (.srConfigure .output .timerOvf) (withShift 0x7F 0 .off)) (fun t => (t.line, t.edge.flag, t.edge.lastLevel)) =
      some (false, true, false) ∧
    refusalReason (exec (.srConfigure .off .toggle) idle) = some .unmodelledClockSource := by decide

theorem test_sr_set_seed : after (exec (.srSetSeed 11) (withShift 0 3 .off)) (fun t => t.shift.cnt) = some 11 := by decide

theorem test_sr_read_data : after (exec .srReadData (withShift 0x82 3 .off)) (fun t => t.ret) = some (.byte 0x82) := by decide

theorem test_sr_write_data :
    after (exec (.srWriteData 0x17) (withShift 0xFF 0 .output)) (fun t => (t.shift.sr, t.line, t.edge.flag)) =
      some (0x17, false, true) := by decide

theorem test_sr_enable_ovf_irq :
    after (exec (.srEnableOvfIrq true) idle) (fun t => t.shift.ovfIe) = some true := by decide

theorem test_sr_clear_flag :
    after (exec .srClearFlag (receiving 0x82 empty)) (fun t => (t.shift.ovfFlag, t.shift.ovfIe)) = some (false, true) := by
  decide

/-! ### Bit clock (section 2.7) -/

theorem test_timer_write : after (exec (.timerWrite 0xDD) (running 7 idle)) (fun t => t.timer.tcnt) = some 221 := by decide

/-- 104 + 0x98 is 256: the carry is dropped, and it is no tick. -/
theorem test_timer_add :
    after (exec (.timerAdd 0x98) (running 3 idle)) (fun t => t.timer.tcnt) = some 155 ∧
    after (exec (.timerAdd 0x98) (running 104 idle)) (fun t => (t.timer.tcnt, t.timer.ovfFlag)) = some (0, false) := by
  decide

theorem test_timer_start :
    after (exec .timerStart { idle with timer := { tcnt := 9, run := false, ovfIe := false, ovfFlag := true } })
      (fun t => t.timer) = some { tcnt := 9, run := true, ovfIe := true, ovfFlag := false } := by decide

theorem test_timer_stop :
    after (exec .timerStop { idle with timer := { tcnt := 9, run := true, ovfIe := true, ovfFlag := true } })
      (fun t => t.timer) = some { tcnt := 9, run := false, ovfIe := false, ovfFlag := false } := by decide

/-- The tick vectors of section 2.6: a rotation in OUTPUT mode, and the 9th sample of byte 0x41. -/
theorem test_time_step_tick :
    after (exec .timeStep (running 255 (withShift 0xA0 11 .output)))
      (fun t => (t.timer.tcnt, t.timer.ovfFlag, t.shift.sr, t.shift.cnt, t.shift.ovfFlag, t.line)) =
      some (0, true, 0x41, 12, false, false) ∧
    after (exec .timeStep { running 255 (withShift 0x41 15 .input) with extLevel := false })
      (fun t => (t.shift.sr, t.shift.cnt, t.shift.ovfFlag)) = some (0x82, 0, true) := by decide

/-- TCNT = 254 only counts; a stopped timer only passes ghost time. -/
theorem test_time_step_count :
    after (exec .timeStep (running 254 (withShift 0x5A 4 .input))) (fun t => (t.timer.tcnt, t.shift.sr, t.shift.cnt, t.time)) =
      some (255, 0x5A, 4, 1) ∧
    after (exec .timeStep { idle with timer := { idle.timer with tcnt := 255 } }) (fun t => (t.timer.tcnt, t.time)) =
      some (255, 1) := by decide

/-! ### Edge detector and handlers (sections 2.8, 2.9) -/

theorem test_edge_arm :
    after (exec .edgeArm { idle with edge := { ie := false, flag := true, lastLevel := true } }) (fun t => t.edge) =
      some { ie := true, flag := false, lastLevel := true } := by decide

theorem test_edge_disarm :
    after (exec .edgeDisarm { idle with edge := { ie := true, flag := true, lastLevel := true } }) (fun t => t.edge) =
      some { ie := false, flag := false, lastLevel := true } := by decide

theorem test_line_read :
    after (exec .lineRead { idle with extLevel := false }) (fun t => t.ret) = some (.bool false) ∧
    after (exec .lineRead (withShift 0x80 0 .output)) (fun t => t.ret) = some (.bool true) := by decide

/-- A start bit seen: the edge pending, the line at 0. -/
def startBit : State := { armed with edge := { ie := true, flag := true, lastLevel := false }, extLevel := false }

theorem test_isr_edge_starts :
    after (exec .isrEdge startBit) (fun t => (t.timer.tcnt, t.shift.cnt, t.shift.mode, t.edge.ie, t.edge.flag, t.status.rxPackageActive)) =
      some (221, 7, .input, false, false, true) := by decide

theorem test_isr_edge_ignores_a_glitch :
    after (exec .isrEdge { armed with edge := { ie := true, flag := true, lastLevel := true } })
      (fun t => (t.edge, t.status.rxPackageActive)) = some ({ ie := true, flag := false, lastLevel := true }, false) ∧
    faultCode (exec .isrEdge (transmitting true 0x82 empty)) = some .edgeInTransfer := by decide

/-- The example of R275. -/
theorem test_isr_timer_ovf :
    after (exec .isrTimerOvf { idle with timer := { tcnt := 3, run := true, ovfIe := true, ovfFlag := true } })
      (fun t => (t.timer.tcnt, t.timer.ovfFlag)) = some (155, false) := by decide

theorem test_isr_sr_ovf_transmit :
    after (exec .isrSrOvf (transmitting true 0x82 empty)) (fun t => (t.shift.sr, t.shift.cnt, t.status.txHalfFrameActive)) =
      some (0x17, 11, false) ∧
    after (exec .isrSrOvf (transmitting false 0x00 (one 0x82)))
      (fun t => (t.inflight, t.tx.tail, t.shift.sr, t.shift.cnt, t.status.txHalfFrameActive)) =
      some (0x82, 1, 0xA0, 11, true) := by decide

theorem test_isr_sr_ovf_receive :
    after (exec .isrSrOvf (receiving 0x82 empty)) (fun t => (t.rx, t.status.rxPackageActive, t.edge.ie, t.shift.mode)) =
      some (one 0x82, false, true, .off) ∧
    after (exec .isrSrOvf (receiving 0xFC (ringAt 15 0))) (fun t => (t.rx, t.status.rxOverflow)) =
      some (ringAt 15 0, true) ∧
    faultCode (exec .isrSrOvf idle) = some .spuriousSrOvf := by decide

/-! ### Environment events, reset, the step -/

theorem test_line_set :
    after (exec (.lineSet false) armed) (fun t => (t.extLevel, t.edge.flag, t.edge.lastLevel)) = some (false, true, false) ∧
    faultCode (exec (.lineSet false) (transmitting true 0x82 empty)) = some .collision := by decide

theorem test_gie_set : after (exec (.gieSet true) State.reset) (fun t => t.gie) = some true := by decide

/-- R380: the flags, indices and enables of the table; `EXT_LEVEL` and `T` are kept. -/
theorem test_reset :
    after (exec .reset { startBit with time := 9, mainPc := .rbWait }) (fun t => (t.edge, t.extLevel, t.time, t.mainPc)) =
      some ({ ie := false, flag := false, lastLevel := false }, false, 9, .ready) ∧
    after (exec .reset (transmitting true 0x82 fullTx)) (fun t => (t.status, t.tx, t.shift.mode, t.timer.run, t.gie)) =
      some (State.reset.status, empty, .off, false, false) := by decide

theorem test_reset_memory_wf : Memory.wf State.reset.tx.buf = true ∧ Memory.wf State.reset.rx.buf = true := by decide

/-- Section 2.11: a class 0x7 word handed to `MAIN`, and a class 0x1 word from the host, are refused; the harness may
issue the second. -/
theorem test_step_refusals :
    refusalReason (step { idle with sched := [.main], inbox := [⟨.harness, 0x7000⟩] }) = some .internalCommand ∧
    refusalReason (step { idle with sched := [.main], inbox := [⟨.host, 0x1082⟩] }) = some .internalCommand ∧
    refusalReason (step { idle with sched := [.main], inbox := [⟨.host, 0x8000⟩] }) = some .reservedEncoding ∧
    after (step { idle with sched := [.main], inbox := [⟨.harness, 0x1082⟩] }) (fun t => t.tx) = some (one 0x82) := by
  decide

/-- The word placed for the next step runs in that step. -/
theorem test_with_fetch_word :
    after (step (State.reset.withFetchWord 16 0x7201)) (fun t => t.gie) = some true ∧
    after (step (State.reset.withFetchWord 16 0x40DD)) (fun t => t.timer.tcnt) = some 221 ∧
    after (step (State.reset.withFetchWord 16 0x0241)) (fun t => t.mainPc) = some (.tbSpace 0x82) := by decide

/-! ### Witnesses: the hypotheses of each statement, met together -/

/-- `MAIN` next in the schedule, a word waiting. -/
def handed (issuer : Issuer) (w : Word) : State := { armed with sched := [.main, .clock], inbox := [⟨issuer, w⟩] }

/-- One agent next in the schedule. -/
def next (a : Agent) (s : State) : State := { s with sched := [a] }

/-- `MAIN` next, at a micro-step. -/
def atMicro (p : MainPc) (s : State) : State := { s with sched := [.main], mainPc := p }

/-- All three handlers enabled and pending (a state of the component harness). -/
def allPending : State :=
  { startBit with
    timer := { tcnt := 0, run := true, ovfIe := true, ovfFlag := true }
    shift := { sr := 0, cnt := 0, mode := .input, clk := .timerOvf, ovfIe := true, ovfFlag := true } }

/-- The timer's and the shift register's flags set by one tick (R283). -/
def tickPending : State := { allPending with edge := { ie := false, flag := true, lastLevel := false } }

theorem wit_DecodeOfEncodeIsIdentity :
    Instr.wf (.srConfigure .input .toggle) = true ∧ Instr.wf (.srSetSeed 15) = true ∧ Instr.wf .reset = true := by decide

theorem wit_EncodeOfDecodeIsIdentity :
    decode 0x3006 = .instr (.srConfigure .input .toggle) ∧ decode 0x7F00 = .instr .reset := by decide

theorem wit_ValidWordsAreTheTableRows :
    decode 0x3000 = .instr (.srConfigure .off .timerOvf) ∧ 16 < opcodeRows.length ∧
    decode 0x7F00 = .instr .reset ∧ 35 < opcodeRows.length := by decide

theorem wit_StepRunsTheDecodedCommand :
    (handed .host 0x0241).quiescent = false ∧ decode 0x0241 = .instr (.transmitByte 0x41) ∧
    (handed .host 0x0241).mainPc = .ready ∧ (handed .host 0x0241).sched = [.main, .clock] ∧
    (handed .host 0x0241).inbox = [⟨.host, 0x0241⟩] ∧ (Instr.transmitByte 0x41).cmdClass = .api ∧
    (handed .harness 0x6200).inbox = [⟨.harness, 0x6200⟩] ∧ decode 0x6200 = .instr .isrSrOvf ∧
    Instr.isrSrOvf.cmdClass ≠ .event ∧
    (next (.env 0x7F00) armed).quiescent = false ∧ (next (.env 0x7F00) armed).sched = [.env 0x7F00] ∧
    Instr.reset.cmdClass = .event ∧ Instr.reset ≠ .timeStep ∧ (next .clock armed).sched = [.clock] ∧
    (next .clock armed).quiescent = false ∧ armed.sched = [] ∧ armed.quiescent = false := by decide

theorem wit_PlacedWordIsRunNext : decode 0x0241 = .instr (.transmitByte 0x41) ∧ decode 0x7000 = .instr .timeStep := by
  decide

theorem wit_RefusedStepsOnlySetRefused :
    ((handed .host 0x8000).quiescent = false ∧ (handed .host 0x8000).sched = [.main, .clock] ∧
      (handed .host 0x8000).mainPc = .ready ∧ (handed .host 0x8000).inbox = [⟨.host, 0x8000⟩] ∧
      decode 0x8000 = .invalid .reservedClass) ∧
    ((next (.env 0x7300) armed).quiescent = false ∧ (next (.env 0x7300) armed).sched = [.env 0x7300] ∧
      decode 0x7300 = .invalid .reservedOp) ∧
    ((handed .host 0x6000).inbox = [⟨.host, 0x6000⟩] ∧ decode 0x6000 = .instr .isrEdge ∧
      Instr.isrEdge.cmdClass ≠ .api ∧ (handed .harness 0x7000).inbox = [⟨.harness, 0x7000⟩] ∧
      decode 0x7000 = .instr .timeStep ∧ Instr.timeStep.cmdClass = .event) ∧
    SrMode.input ≠ .reserved ∧ { armed with refused := true }.refused = true := by decide

theorem wit_HandlerStepNeedsEnableAndPriority :
    ((next (.handler .edge) allPending).quiescent = false ∧ (next (.handler .edge) allPending).sched = [.handler .edge] ∧
      allPending.gie = true ∧ allPending.edge.ie = true ∧ allPending.edge.flag = true) ∧
    (tickPending.gie = true ∧ tickPending.timer.ovfIe = true ∧ tickPending.timer.ovfFlag = true ∧
      tickPending.edge.ie = false) ∧
    ((receiving 0 empty).gie = true ∧ (receiving 0 empty).shift.ovfIe = true ∧ (receiving 0 empty).shift.ovfFlag = true ∧
      (receiving 0 empty).edge.ie = false ∧ (receiving 0 empty).timer.ovfFlag = false) ∧
    armed.handlerEnabled .edge = false ∧ tickPending.handlerEnabled .timerOvf = true ∧
    Irq.timerOvf ∈ Irq.srOvf.higher := by decide

theorem wit_QuiescentMachineTakesNoStep :
    { armed with faults := [.collision] }.faults ≠ [] ∧ { armed with refused := true }.refused = true ∧
    faultCode (step (next (.env 0x7100) (transmitting true 0x82 empty))) = some .collision := by decide

theorem wit_WaitingWordStaysWhileMainIsBusy :
    { handed .host 0x0241 with mainPc := .rbWait }.quiescent = false ∧
    { handed .host 0x0241 with mainPc := .rbWait }.sched = [.main, .clock] ∧
    { handed .host 0x0241 with mainPc := .rbWait }.mainPc ≠ .ready ∧
    after (step { handed .host 0x0241 with mainPc := .rbWait }) (fun t => t.mainPc) = some .rbWait := by decide

theorem wit_InvalidConfigurationIsNotBuilt :
    Machine.build Config.example12 1 2 3 = some (State.launch Config.example12 1 2 3) ∧
    Machine.build (config 1000000 1 600000 4 16 0) 1 2 3 = none := by decide

/-- The bit period at both ends of its range, 2 and 256, and the smallest and largest capacities. -/
theorem wit_DerivedConstantsAreTheFormulas :
    (config 2 1 1 2 256 0).valid = true ∧ (config 2 1 1 2 256 0).bitPeriod = 2 ∧ (config 256 1 1 256 2 127).valid = true ∧
    (config 256 1 1 256 2 127).bitPeriod = 256 := by decide

theorem wit_ResetForgetsWhatItDoesNotKeep :
    armed.cfg = (receiving 3 empty).cfg ∧ armed.extLevel = (receiving 3 empty).extLevel ∧
    armed.faults = (receiving 3 empty).faults ∧ armed.refused = (receiving 3 empty).refused ∧
    armed.time = (receiving 3 empty).time ∧ armed.draws = (receiving 3 empty).draws ∧
    armed.inbox = (receiving 3 empty).inbox ∧ armed.sched = (receiving 3 empty).sched ∧ armed ≠ receiving 3 empty := by
  decide

/-- A full ring and one with room, the next head wrapping to 0, for both rings. -/
theorem wit_PushWritesTheNextSlotOrFails :
    idle.cfg.valid = true ∧ idle.collides = false ∧
    ((3 : Byte) + 1) &&& idle.cfg.mask .tx = 0 ∧ { idle with tx := fullTx }.collides = false ∧
    ((15 : Byte) + 1) &&& idle.cfg.mask .rx = 0 ∧ { idle with rx := ringAt 15 1 }.collides = false ∧
    ((0 : Byte) + 1) &&& idle.cfg.mask .tx ≠ 0 := by decide

theorem wit_PopReturnsTheOldestSlotOrFaults :
    idle.cfg.valid = true ∧ idle.tx.head = idle.tx.tail ∧ { idle with rx := ringAt 0 15 }.rx.head ≠ 15 ∧
    { idle with rx := ringAt 0 15 }.collides = false := by decide

theorem wit_EmptinessTestAndFlush : idle.collides = false := by decide

/-- The ring invariants hold where nothing has been written. -/
theorem ringInv_unwritten {s : State} (hv : s.cfg.valid = true) (ht : s.tx = ringAt 0 0) (hr : s.rx = ringAt 0 0)
    (hp : 0 < s.cfg.nTx ∧ 0 < s.cfg.nRx) : RingInv s := by
  refine ⟨hv, fun r => ?_⟩
  cases r
  · simp [IndicesInRange, StorageInv, State.ring, ht, ringAt, Config.capacity, hp, Memory.wf, Memory.risingFrom, Memory.read?]
  · simp [IndicesInRange, StorageInv, State.ring, hr, ringAt, Config.capacity, hp, Memory.wf, Memory.risingFrom, Memory.read?]

/-- The ring invariants hold with one byte in the TX ring. -/
theorem ringInv_one {s : State} (v : Byte) (hv : s.cfg.valid = true) (ht : s.tx = one v) (hr : s.rx = ringAt 0 0)
    (hp : 1 < s.cfg.nTx ∧ 0 < s.cfg.nRx) : RingInv s := by
  refine ⟨hv, fun r => ?_⟩
  cases r
  · refine ⟨by simpa [IndicesInRange, State.ring, ht, one, Config.capacity] using ⟨hp.1, by omega⟩,
      by simp [State.ring, ht, one, Memory.wf, Memory.risingFrom], fun a w h => ?_⟩
    simp only [State.ring, ht, one, Memory.read?] at h
    split at h
    · rename_i ha; subst ha; exact hp.1
    · exact absurd h (by simp)
  · simp [IndicesInRange, StorageInv, State.ring, hr, hp, ringAt, Config.capacity, Memory.wf, Memory.risingFrom,
      Memory.read?]

theorem wit_RingsRefineBoundedFifoQueues :
    (RingInv idle ∧ idle.collides = false ∧ (idle.ringContents .tx).length < idle.cfg.capacity .tx - 1) ∧
    (RingInv { idle with tx := one 0x82 } ∧ { idle with tx := one 0x82 }.ringContents .tx = 0x82 :: []) ∧
    ({ idle with tx := fullTx }.ringContents .tx).length = idle.cfg.capacity .tx - 1 :=
  ⟨⟨ringInv_unwritten (by decide) rfl rfl (by decide), by decide, by decide⟩,
    ⟨ringInv_one 0x82 (by decide) rfl rfl (by decide), by decide⟩, by decide⟩

theorem wit_EveryStepKeepsTheRingInvariants : RingInv armed ∧ ∃ t, step armed = .next t :=
  ⟨ringInv_unwritten (by decide) rfl rfl (by decide), _, rfl⟩

theorem wit_ReverseBitsReversesTheBits : idle.collides = false ∧ 7 < 8 := by decide

theorem wit_ReversingTwiceRestoresTheByte : idle.collides = false := by decide

theorem wit_SrConfigureSetsModeAndClock :
    SrMode.input ≠ .output ∧ SrMode.output ≠ .reserved ∧ idle.extLevel = true ∧
    { idle with extLevel := false }.extLevel = false := by decide

theorem wit_ShiftRegisterPrimitives : (withShift 0 15 .output).collides = false ∧ (withShift 0 15 .output).shift.mode = .output := by
  decide

theorem wit_TimerPrimitives : (running 255 idle).collides = false := by decide

theorem wit_TimerHandlerAddsTheSteadyReload : (running 255 idle).collides = false := by decide

/-- The timer stopped; running below the wrap; at the wrap with the peripheral off, clocked otherwise, and shifting. -/
theorem wit_TimeStepCountsAndTicks :
    (idle.collides = false ∧ idle.timer.run = false) ∧
    ((running 254 idle).timer.run = true ∧ (running 254 idle).timer.tcnt ≠ 255) ∧
    ((running 255 idle).timer.tcnt = 255 ∧ (running 255 idle).shift.mode = .off) ∧
    ((running 255 (withShift 0xA0 15 .output)).collides = false ∧ (running 255 (withShift 0xA0 15 .output)).timer.tcnt = 255 ∧
      (running 255 (withShift 0xA0 15 .output)).shift.mode ≠ .off ∧
      (running 255 (withShift 0xA0 15 .output)).shift.clk = .timerOvf) := by decide

/-- The last latency that keeps the period, 103 with the example configuration (section 2.7). -/
theorem wit_PeriodLawForEveryLatency :
    (running 103 idle).timer.run = true ∧ (running 103 idle).collides = false ∧
    (running 103 idle).timer.tcnt.toNat + (running 103 idle).cfg.reloadSteady.toNat ≤ 255 ∧
    1 ≤ (idle.cfg.bitPeriod : Int) - idle.cfg.rAdj ∧ (idle.cfg.bitPeriod : Int) - idle.cfg.rAdj ≤ 256 := by decide

/-- The first latency that breaks it, 104, and the last one, 255. -/
theorem wit_LateHandlerDelaysTheTickByAFullTurn :
    (running 104 idle).timer.run = true ∧ (running 104 idle).collides = false ∧
    256 ≤ (running 104 idle).timer.tcnt.toNat + (running 104 idle).cfg.reloadSteady.toNat ∧
    256 ≤ (running 255 idle).timer.tcnt.toNat + (running 255 idle).cfg.reloadSteady.toNat := by decide

theorem wit_FirstReceiveTickIsHalfAPeriodLessTheLatency :
    startBit.cfg.valid = true ∧ startBit.inTransfer = false ∧ startBit.line = false := by decide

theorem wit_FirstTransmitTickIsOnePeriod :
    (atMicro .tbWaitRx idle).cfg.valid = true ∧ (atMicro .tbWaitRx idle).mainPc = .tbWaitRx ∧
    (atMicro .tbWaitRx idle).status.rxPackageActive = false ∧ (atMicro .tbWaitRx idle).extLevel = true ∧
    (atMicro .tbWaitRx idle).cfg.rAdj = 0 := by decide

theorem wit_EdgeDetectorPrimitives : startBit.collides = false ∧ (withShift 0x80 0 .output).collides = false := by decide

/-- In a transfer; with the line at 0; with the line at 1. -/
theorem wit_EdgeHandlerStartsAReceptionOnALowLine :
    (receiving 0 empty).inTransfer = true ∧ (startBit.inTransfer = false ∧ startBit.line = false) ∧
    (armed.inTransfer = false ∧ armed.line = true ∧ armed.collides = false) := by decide

theorem wit_OverflowLoadsTheSecondHalfFrame :
    (transmitting true 0x82 empty).status.txFromBufferActive = true ∧
    (transmitting true 0x82 empty).status.txHalfFrameActive = true ∧ (transmitting true 0x82 empty).collides = false := by
  decide

theorem wit_OverflowLoadsTheNextByte :
    (transmitting false 0 (one 0x82)).cfg.valid = true ∧ (transmitting false 0 (one 0x82)).status.txFromBufferActive = true ∧
    (transmitting false 0 (one 0x82)).status.txHalfFrameActive = false ∧
    (transmitting false 0 (one 0x82)).tx.head ≠ (transmitting false 0 (one 0x82)).tx.tail ∧
    (transmitting false 0 (one 0x82)).collides = false := by decide

theorem wit_OverflowEndsTheTransmission :
    (transmitting false 0 empty).status.txFromBufferActive = true ∧
    (transmitting false 0 empty).status.txHalfFrameActive = false ∧
    (transmitting false 0 empty).tx.head = (transmitting false 0 empty).tx.tail := by decide

/-- A ring with room, the head wrapping, and a full ring. -/
theorem wit_OverflowStoresOrDiscardsTheReceivedByte :
    (receiving 0x82 (ringAt 15 1)).cfg.valid = true ∧ (receiving 0x82 (ringAt 15 1)).status.txFromBufferActive = false ∧
    (receiving 0x82 (ringAt 15 1)).status.rxPackageActive = true ∧ ((15 : Byte) + 1) &&& idle.cfg.mask .rx ≠ 1 ∧
    (receiving 0xFC (ringAt 15 0)).status.rxPackageActive = true ∧ ((15 : Byte) + 1) &&& idle.cfg.mask .rx = 0 := by
  decide

theorem wit_OverflowWithoutATransferFaults : idle.inTransfer = false := by decide

/-- In a transfer; already armed; not armed. -/
theorem wit_InitReceiverArmsFromIdle :
    (receiving 0 empty).inTransfer = true ∧
    (armed.inTransfer = false ∧ armed.edge.ie = true ∧ armed.collides = false) ∧
    (idle.inTransfer = false ∧ idle.edge.ie = false) := by decide

theorem wit_BlockingCommandsOnlyMoveMainPc : armed.collides = false := by decide

theorem wit_StatusCommandsReturnInOneStep : overflowed.collides = false := by decide

theorem wit_FlushBuffersEmptiesBothRings :
    (receiving 0 empty).inTransfer = true ∧ (armed.inTransfer = false ∧ armed.collides = false) := by decide

/-- A full ring and one whose head wraps. -/
theorem wit_TbSpaceQueuesOrStays :
    (atMicro (.tbSpace 0x82) idle).cfg.valid = true ∧ (atMicro (.tbSpace 0x82) idle).mainPc = .tbSpace 0x82 ∧
    (atMicro (.tbSpace 0x82) idle).collides = false ∧ ((3 : Byte) + 1) &&& idle.cfg.mask .tx = fullTx.tail ∧
    ((3 : Byte) + 1) &&& idle.cfg.mask .tx ≠ { fullTx with tail := 1 }.tail := by decide

theorem wit_TbCheckReturnsOrWaits :
    (atMicro .tbCheck idle).mainPc = .tbCheck ∧ (atMicro .tbCheck idle).collides = false ∧
    (atMicro .tbCheck idle).status.txFromBufferActive = false ∧
    (atMicro .tbCheck (transmitting true 0 empty)).status.txFromBufferActive = true ∧
    (atMicro .tbCheck (transmitting true 0 empty)).collides = false := by decide

/-- A reception running; the start; the start against a far end at 0. -/
theorem wit_TbWaitRxStartsTheTransmission :
    ((atMicro .tbWaitRx (receiving 0 empty)).mainPc = .tbWaitRx ∧
      (atMicro .tbWaitRx (receiving 0 empty)).status.rxPackageActive = true ∧
      (atMicro .tbWaitRx (receiving 0 empty)).collides = false) ∧
    ((atMicro .tbWaitRx armed).status.rxPackageActive = false ∧ (atMicro .tbWaitRx armed).extLevel = true) ∧
    ((atMicro .tbWaitRx startBit).status.rxPackageActive = false ∧ (atMicro .tbWaitRx startBit).extLevel = false) := by
  decide

theorem wit_RbWaitReturnsTheReversedByte :
    (atMicro .rbWait idle).cfg.valid = true ∧ (atMicro .rbWait idle).mainPc = .rbWait ∧
    (atMicro .rbWait idle).collides = false ∧ (atMicro .rbWait idle).rx.head = (atMicro .rbWait idle).rx.tail ∧
    (atMicro .rbWait { idle with rx := ringAt 0 15 }).rx.head ≠ (atMicro .rbWait { idle with rx := ringAt 0 15 }).rx.tail := by
  decide

theorem wit_EnvironmentEventsSetTheirInput :
    idle.shift.mode ≠ .output ∧ (transmitting true 0 empty).shift.mode = .output ∧ idle.collides = false := by decide

/-- `TIME_STEP` in the launch state, in a transmission and in a reception. -/
theorem wit_EveryStepKeepsTheConfigurationInvariants :
    (Integrated (transmitting true 0 empty) ∧ ConfigurationInv (transmitting true 0 empty) ∧
      ∃ t, step (transmitting true 0 empty) = .next t) ∧
    (Integrated (receiving 0 empty) ∧ ConfigurationInv (receiving 0 empty) ∧ ∃ t, step (receiving 0 empty) = .next t) := by
  refine ⟨⟨?_, ?_, _, rfl⟩, ?_, ?_, _, rfl⟩
  · intro q h; cases h
  · unfold ConfigurationInv; decide
  · intro q h; cases h
  · unfold ConfigurationInv; decide

theorem wit_EveryStepKeepsTheIdleTxRingEmpty :
    Integrated armed ∧ IdleTxRingInv armed ∧ ∃ t, step armed = .next t := by
  refine ⟨?_, ?_, _, rfl⟩
  · intro q h; cases h
  · unfold IdleTxRingInv; decide

theorem wit_InvariantsHoldAtLaunch : Config.example12.valid = true := by decide

/-- A step of the integrated machine that faults, from a state where the invariants hold. -/
theorem wit_FaultCodesFourToSevenAreUnreachable :
    Integrated (next (.env 0x7100) (transmitting true 0 (ringAt 0 0))) ∧
    ConfigurationInv (next (.env 0x7100) (transmitting true 0 (ringAt 0 0))) ∧
    RingInv (next (.env 0x7100) (transmitting true 0 (ringAt 0 0))) ∧
    ∃ t, step (next (.env 0x7100) (transmitting true 0 (ringAt 0 0))) = .fault (.raised .collision t) := by
  refine ⟨?_, ?_, ringInv_unwritten (by decide) rfl rfl (by decide), _, rfl⟩
  · intro q h; cases h
  · unfold ConfigurationInv; decide

theorem wit_ReceptionExcludesDrivingTheLine :
    Integrated (atMicro .tbWaitRx (receiving 0 empty)) ∧ ConfigurationInv (atMicro .tbWaitRx (receiving 0 empty)) ∧
    (atMicro .tbWaitRx (receiving 0 empty)).status.rxPackageActive = true ∧
    ∃ t, step (atMicro .tbWaitRx (receiving 0 empty)) = .next t := by
  refine ⟨?_, ?_, rfl, _, rfl⟩
  · intro q h; cases h
  · unfold ConfigurationInv; decide

theorem wit_OnlyTheNamedWritersChangeAStatusFlag :
    (∃ t, exec (.timerAdd 3) armed = .next t) ∧ Instr.timerAdd 3 ≠ .reset ∧ Instr.timerAdd 3 ≠ .isrEdge ∧
    Instr.timerAdd 3 ≠ .isrSrOvf ∧ Instr.timerAdd 3 ≠ .clearRxOverflow ∧
    (∃ t, microStep (atMicro .rbWait armed) = .next t) ∧ (atMicro .rbWait armed).mainPc ≠ .tbWaitRx :=
  ⟨⟨_, rfl⟩, by decide, by decide, by decide, by decide, ⟨_, rfl⟩, by decide⟩

theorem wit_OnlyTheNamedCommandsWriteInputsAndRecords :
    (∃ t, exec .timeStep overflowed = .next t) ∧ (∀ l, Instr.timeStep ≠ .lineSet l) ∧ (∀ g, Instr.timeStep ≠ .gieSet g) ∧
    Instr.timeStep ≠ .reset ∧ Instr.timeStep ≠ .clearRxOverflow ∧ overflowed.status.rxOverflow = true ∧
    ∃ t, microStep (atMicro .tbWaitRx armed) = .next t :=
  ⟨⟨_, rfl⟩, by decide, by decide, by decide, by decide, rfl, _, rfl⟩

theorem wit_HandlersLeaveTheMainFlowAlone :
    (∃ t, exec Irq.edge.instr armed = .next t ∧ armed.edge.lastLevel = t.line) ∧
    (∃ t, exec Irq.timerOvf.instr armed = .next t) ∧ (∃ t, exec Irq.srOvf.instr (transmitting true 0 empty) = .next t) :=
  ⟨⟨_, rfl, rfl⟩, ⟨_, rfl⟩, ⟨_, rfl⟩⟩

/-- A step that completes, one that collides, a command and a micro-step across a level change and across none. -/
theorem wit_EveryCompletedStepIsSettled :
    (∃ t, step armed = .next t) ∧
    (∃ t, step (next (.env 0x7100) (transmitting true 0 empty)) = .fault (.raised .collision t)) ∧
    (∃ t, exec (.lineSet false) armed = .next t ∧ t.line ≠ armed.edge.lastLevel) ∧
    (∃ t, exec .timeStep startBit = .next t ∧ t.line = startBit.edge.lastLevel ∧ t.edge.flag = true) ∧
    (∃ t, microStep (atMicro .tbWaitRx (next .clock { armed with edge := { ie := true, flag := true, lastLevel := false } })) =
      .next t ∧ t.line ≠ false) ∧
    (∃ t, microStep (atMicro .rbWait startBit) = .next t ∧ t.line = startBit.edge.lastLevel ∧ t.edge.flag = true) :=
  ⟨⟨_, rfl⟩, ⟨_, rfl⟩, ⟨_, rfl, by decide⟩, ⟨_, rfl, rfl, rfl⟩, ⟨_, rfl, by decide⟩, ⟨_, rfl, rfl, rfl⟩⟩

/-- Each of the three outcomes is met. -/
theorem wit_GhostTimeInfluencesNothing :
    (∃ t, step armed = .next t) ∧
    (∃ t, step (next (.env 0x7100) (transmitting true 0 empty)) = .fault (.raised .collision t)) ∧
    (∃ t, step (next (.env 0x7E00) armed) = .refused (.refusedStep .reservedEncoding t)) :=
  ⟨⟨_, rfl⟩, ⟨_, rfl⟩, ⟨_, rfl⟩⟩

/-- R394's premise over a run: kept by a transmission's start and first two counts; broken where the far end begins a
frame at `TB_CHECK`, and where it holds the line at 0 when the block starts to drive. -/
theorem test_farEndSilentWhileTx :
    FarEndSilentWhileTx 3 { atMicro .tbWaitRx armed with sched := [.main, .clock, .clock] } ∧
    ¬ FarEndSilentWhileTx 1 { atMicro .tbCheck armed with sched := [.env 0x7100] } ∧
    ¬ FarEndSilentWhileTx 1 { atMicro .tbWaitRx startBit with sched := [.main] } := by
  refine ⟨⟨⟨fun _ => rfl, ?_⟩, ⟨fun _ => rfl, ?_⟩, ⟨fun _ => rfl, ?_⟩, fun _ => rfl⟩, ?_, ?_⟩
  · rintro _ ⟨_, _, _, h, _⟩; cases h
  · rintro _ ⟨_, _, _, h, _⟩; cases h
  · rintro _ ⟨_, _, _, h, _⟩; cases h
  · rintro ⟨⟨_, h⟩, _⟩
    exact h ⟨rfl, .inr (.inl rfl)⟩ ⟨rfl, 0x7100, [], rfl, by decide⟩
  · rintro ⟨_, h⟩
    exact absurd (h rfl) (by decide)

/-- The half-frames of byte 0x41 (section 2.4). -/
theorem wit_HalfFramesShowTheFrameBits :
    (withShift 0xA0 11 .output).shift.mode = .output ∧ (withShift 0xA0 11 .output).shift.clk = .timerOvf ∧
    (withShift 0xA0 11 .output).shift.cnt = seedTx ∧ (withShift 0xA0 11 .output).shift.ovfFlag = false ∧
    (withShift 0xA0 11 .output).shift.sr = halfFrame1 (reverseBits 0x41) ∧
    (withShift 0x17 11 .output).shift.sr = halfFrame2 (reverseBits 0x41) := by decide

theorem wit_ReceiveBurstCapturesTheReversedByte :
    (withShift 0xFF 7 .input).shift.mode = .input ∧ (withShift 0xFF 7 .input).shift.clk = .timerOvf ∧
    (withShift 0xFF 7 .input).shift.cnt = seedRx ∧ (withShift 0xFF 7 .input).shift.ovfFlag = false := by decide

/-- Byte 0x41 waiting in the TX ring of an idle block at `TB_WAIT_RX`. -/
def readyToSend : State := { armed with mainPc := .tbWaitRx, tx := one 0x82 }

theorem wit_TransmittedByteIsItsWireFrame :
    readyToSend.quiescent = false ∧ RingInv readyToSend ∧ readyToSend.cfg.rAdj = 0 ∧ readyToSend.gie = true ∧
    readyToSend.extLevel = true ∧ readyToSend.mainPc = .tbWaitRx ∧ readyToSend.inTransfer = false ∧
    readyToSend.ringContents .tx = [reverseBits 0x41] ∧ 1 ≤ (oneByteSchedule readyToSend.cfg).length :=
  ⟨by decide, ringInv_one 0x82 (by decide) rfl rfl (by decide), by decide, by decide, by decide, by decide, by decide, by decide,
    by simp only [oneByteSchedule, List.length_cons]; exact Nat.le_add_left 1 _⟩

/-! ### Endless runs (46_public_api.md R318, 60_exceptions.md R341) -/

/-- R341: the state that `RB_POP TX` faults in is no end of a run, though the block is idle in it. -/
theorem test_a_faulted_state_is_no_end :
    EndOfRun State.reset ∧ ∀ t, exec .rbPopTx State.reset = .fault (.raised .popEmpty t) → ¬ EndOfRun t := by
  refine ⟨⟨rfl, rfl, rfl, rfl, fun h => by cases h <;> rfl, rfl⟩, fun t ht h => ?_⟩
  have : t = State.reset.recordFault .popEmpty := by
    have hx : exec .rbPopTx State.reset = .fault (.raised .popEmpty (State.reset.recordFault .popEmpty)) := rfl
    rw [hx] at ht
    simpa [eq_comm] using ht
  exact absurd h.2.2.2.2.2 (by rw [this]; decide)

/-- The run in which the agents of `pre` step in turn, and then `CLOCK` alone. -/
def lasso (s : State) (pre : List Agent) : Nat → State
  | 0 => s
  | n + 1 =>
    match step { lasso s pre n with sched := [pre.getD n .clock] } with
    | .next t => t
    | .fault _ => lasso s pre n
    | .refused _ => lasso s pre n

/-- A state in which only `CLOCK` has a step, which passes time alone. -/
def AtRest (s : State) : Prop :=
  s.quiescent = false ∧ s.timer.run = false ∧ s.shift.mode = .off ∧ s.mainPc = .ready ∧ s.inbox = [] ∧
    (∀ h : Irq, s.handlerEnabled h = false) ∧ s.edge.lastLevel = s.extLevel

theorem atRest_step {s : State} (h : AtRest s) :
    ∃ t, step { s with sched := [.clock] } = .next t ∧ AtRest t := by
  obtain ⟨h1, h2, h3, h4, h5, h6, h7⟩ := h
  have hq : ({ s with sched := [.clock] } : State).quiescent = false := h1
  refine ⟨State.settleEdge { s with time := s.time + 1, sched := [] }, ?_, ?_⟩
  · simp only [step, fetchNext, hq, agentFetch, Bool.false_eq_true, if_false]
    simp [exec, execTimeStep, countStep, finish, settle, h2, State.collides, State.settleEdge, h3]
  · refine ⟨h1, h2, h3, h4, h5, fun k => ?_, ?_⟩
    · have := h6 k
      cases k <;> simpa [State.handlerEnabled, State.interruptEnable, State.pending, State.settleEdge, State.line, h3, h7]
        using this
    · simp [State.settleEdge, State.line, h3]

/-- Such a run is endless and weakly fair, where its first steps complete and leave the block at rest. -/
theorem lasso_run {s : State} {pre : List Agent}
    (hpre : ∀ n, n < pre.length → ∃ t, step { lasso s pre n with sched := [pre.getD n .clock] } = .next t)
    (hrest : AtRest (lasso s pre pre.length)) :
    EndlessRun (lasso s pre) (fun n => pre.getD n .clock) (fun _ => []) ∧
      WeaklyFair (lasso s pre) (fun n => pre.getD n .clock) ∧ ∀ n, pre.length ≤ n → AtRest (lasso s pre n) := by
  have htail : ∀ n, pre.length ≤ n → pre.getD n .clock = .clock := fun n hn => by
    simp [List.getD, List.getElem?_eq_none hn]
  have hall : ∀ k, AtRest (lasso s pre (pre.length + k)) := fun k => by
    induction k with
    | zero => exact hrest
    | succ k ih =>
      obtain ⟨t, ht, hr⟩ := atRest_step ih
      rw [← Nat.add_assoc, lasso, htail _ (by omega), ht]
      exact hr
  have hafter : ∀ n, pre.length ≤ n → AtRest (lasso s pre n) := fun n hn => by
    have := hall (n - pre.length)
    rwa [Nat.add_sub_cancel' hn] at this
  refine ⟨fun n => ?_, fun a n henabled => ?_, hafter⟩
  · have hx : ∃ t, step { lasso s pre n with sched := [pre.getD n .clock] } = .next t := by
      by_cases hn : n < pre.length
      · exact hpre n hn
      · obtain ⟨t, ht, -⟩ := atRest_step (hafter n (by omega))
        exact ⟨t, by rw [htail n (by omega)]; exact ht⟩
    obtain ⟨t, ht⟩ := hx
    refine ⟨t, ht, ?_⟩
    rw [lasso, ht]
    simp
  · have h1 := henabled (max n pre.length) (le_max_left _ _)
    obtain ⟨-, -, -, h4, h5, h6, -⟩ := hafter (max n pre.length) (le_max_right _ _)
    cases a with
    | main => exact absurd h1 (by simp [Enabled, h4, h5])
    | handler h => exact absurd h1 (by simp [Enabled, h6])
    | clock => exact ⟨max n pre.length, le_max_left _ _, htail _ (le_max_right _ _)⟩
    | env w => exact absurd h1 id

/-- The smallest block: P = 2, a TX ring of capacity 2. -/
def tiny (s : State) : State := { s with cfg := config 2 1 1 2 256 0 }

/-- A reception that is complete while `MAIN` waits at `TB_WAIT_RX`; `MAIN` spins once, the handler ends the reception,
and the transmission starts and, with nothing queued, ends after its priming burst. -/
def waitRxStart : State := tiny (atMicro .tbWaitRx (receiving 0 empty))

def waitRxAgents : List Agent :=
  [.main, .handler .srOvf, .main, .clock, .clock, .handler .timerOvf, .handler .srOvf]

/-- All the premises of `tbWaitRx_ends` together. -/
theorem wit_tbWaitRx_ends :
    EndlessRun (lasso waitRxStart waitRxAgents) (fun n => waitRxAgents.getD n .clock) (fun _ => []) ∧
    WeaklyFair (lasso waitRxStart waitRxAgents) (fun n => waitRxAgents.getD n .clock) ∧
    GieWhileSpinning true (lasso waitRxStart waitRxAgents) 0 ∧
    FarEndSilentAlong (lasso waitRxStart waitRxAgents) (fun n => waitRxAgents.getD n .clock) ∧
    (lasso waitRxStart waitRxAgents 0).mainPc = .tbWaitRx ∧ ConfigurationInv (lasso waitRxStart waitRxAgents 0) ∧
    WaitsOnHandler (lasso waitRxStart waitRxAgents 0) := by
  have hcase : ∀ {P : Nat → Prop}, P 0 → P 1 → P 2 → P 3 → P 4 → P 5 → P 6 → ∀ n, n < 7 → P n :=
    fun h0 h1 h2 h3 h4 h5 h6 n hn => by interval_cases n <;> assumption
  obtain ⟨h1, h2, h3⟩ := lasso_run (s := waitRxStart) (pre := waitRxAgents)
    (hcase ⟨_, rfl⟩ ⟨_, rfl⟩ ⟨_, rfl⟩ ⟨_, rfl⟩ ⟨_, rfl⟩ ⟨_, rfl⟩ ⟨_, rfl⟩)
    ⟨by decide, by decide, by decide, by decide, by decide, fun h => by cases h <;> decide, by decide⟩
  refine ⟨h1, h2, fun m _ hm => ?_, fun m => ⟨?_, fun _ => ?_⟩, rfl, by unfold ConfigurationInv; decide, rfl⟩
  · by_cases hlt : m < 7
    · exact hcase (P := fun m => (lasso waitRxStart waitRxAgents m).gie = true)
        (by decide) (by decide) (by decide) (by decide) (by decide) (by decide) (by decide) m hlt
    · exact absurd ((h3 m (by simp [waitRxAgents]; omega)).2.2.2.1.symm.trans hm) (by decide)
  · by_cases hlt : m < 7
    · exact fun _ => hcase (P := fun m => (lasso waitRxStart waitRxAgents m).extLevel = true)
        (by decide) (by decide) (by decide) (by decide) (by decide) (by decide) (by decide) m hlt
    · exact fun hx => absurd ((h3 m (by simp [waitRxAgents]; omega)).2.2.1.symm.trans hx) (by decide)
  · rintro ⟨_, w, rest, hs, _⟩
    have ha : waitRxAgents.getD m .clock = .env w := by simpa using (List.cons.inj hs).1
    by_cases hlt : m < 7
    · exact hcase (P := fun m => waitRxAgents.getD m .clock ≠ .env w)
        nofun nofun nofun nofun nofun nofun nofun m hlt ha
    · simp [List.getD, List.getElem?_eq_none (show waitRxAgents.length ≤ m by simp [waitRxAgents]; omega)] at ha

/-- A transmission with no second half pending and an overflow to serve, the TX ring full, `MAIN` at `TB_SPACE`; `MAIN` spins
once, the handler takes a byte, `MAIN` queues its own, and a `RESET` ends the run's work. -/
def spaceStart : State := tiny (atMicro (.tbSpace 0x41) (transmitting false 0 (one 0x82)))

def spaceAgents : List Agent := [.main, .handler .srOvf, .main, .env 0x7F00]

/-- All the premises of `tbSpace_ends` together, the ring full. -/
theorem wit_tbSpace_ends :
    EndlessRun (lasso spaceStart spaceAgents) (fun n => spaceAgents.getD n .clock) (fun _ => []) ∧
    WeaklyFair (lasso spaceStart spaceAgents) (fun n => spaceAgents.getD n .clock) ∧
    GieWhileSpinning true (lasso spaceStart spaceAgents) 0 ∧ (lasso spaceStart spaceAgents 0).mainPc = .tbSpace 0x41 ∧
    ConfigurationInv (lasso spaceStart spaceAgents 0) ∧ RingInv (lasso spaceStart spaceAgents 0) ∧
    IdleTxRingInv (lasso spaceStart spaceAgents 0) ∧ WaitsOnHandler (lasso spaceStart spaceAgents 0) := by
  have hcase : ∀ {P : Nat → Prop}, P 0 → P 1 → P 2 → P 3 → ∀ n, n < 4 → P n :=
    fun h0 h1 h2 h3 n hn => by interval_cases n <;> assumption
  obtain ⟨h1, h2, h3⟩ := lasso_run (s := spaceStart) (pre := spaceAgents)
    (hcase ⟨_, rfl⟩ ⟨_, rfl⟩ ⟨_, rfl⟩ ⟨_, rfl⟩)
    ⟨by decide, by decide, by decide, by decide, by decide, fun h => by cases h <;> decide, by decide⟩
  refine ⟨h1, h2, fun m _ hm => ?_, rfl, by unfold ConfigurationInv; decide,
    ringInv_one 0x82 (by decide) rfl rfl (by decide), .inr (.inr (.inl rfl)), rfl⟩
  by_cases hlt : m < 4
  · exact hcase (P := fun m => (lasso spaceStart spaceAgents m).mainPc = .tbSpace 0x41 →
      (lasso spaceStart spaceAgents m).gie = true) (by decide) (by decide) (by decide) (by decide) m hlt hm
  · exact absurd ((h3 m (by simp [spaceAgents]; omega)).2.2.2.1.symm.trans hm) (by decide)

/-- The premises of the tick counts of R318: an accepted start bit leaves 9 ticks, a loaded byte 5 and 5. -/
theorem test_seeds_leave_nine_and_ten_ticks :
    after (exec .isrEdge startBit) Laws.overflowTicks = some 9 ∧
    after (exec .isrSrOvf (transmitting false 0 (one 0x82))) Laws.popTicks = some 10 := by decide

/-- A spin that never ends: `RB_WAIT` with `GIE = 0`, `MAIN` and `CLOCK` stepping in turn, in an endless and weakly fair run
(R318, 70_reset_and_hazards.md R387). -/
theorem wit_gieOff_spin_never_ends :
    ∃ states agents arrivals, EndlessRun states agents arrivals ∧ WeaklyFair states agents ∧
      WaitsOnHandler (states 0) ∧ GieWhileSpinning false states 0 ∧ ∀ m, ¬ IsReset (agents m) := by
  refine ⟨fun n => { State.reset with mainPc := .rbWait, time := n / 2 },
    fun n => if n % 2 = 0 then .main else .clock, fun _ => [], fun n => ?_, fun a n h => ?_, rfl, fun _ _ _ => rfl,
    fun m => ?_⟩
  · by_cases hn : n % 2 = 0
    · refine ⟨{ State.reset with mainPc := .rbWait, time := n / 2 }, ?_, ?_⟩
      · simp only [hn, if_true]; rfl
      · have : (n + 1) / 2 = n / 2 := by omega
        simp only [this]; rfl
    · refine ⟨{ State.reset with mainPc := .rbWait, time := n / 2 + 1 }, ?_, ?_⟩
      · simp only [hn, if_false]; rfl
      · have : (n + 1) / 2 = n / 2 + 1 := by omega
        simp only [this]; rfl
  · cases a with
    | main => exact ⟨2 * n, by omega, by simp⟩
    | handler k => exact absurd (h n le_rfl) (by cases k <;> exact Bool.false_ne_true)
    | clock => exact ⟨2 * n + 1, by omega, by simp⟩
    | env w => exact absurd (h n le_rfl) id
  · rintro ⟨w, hw, -⟩
    by_cases hn : m % 2 = 0 <;> simp [hn] at hw

end Sys2Proof.Tests
end

section
/-! PROOFS. The configuration check and the derived constants (00_scope.md R8 to R10). -/

namespace Sys2Proof.Proofs

open Sys2Proof.Machine Sys2Proof.Laws

/-! ### The configuration check -/

/-- The model's list of capacities holds exactly the powers of two from 2 to 256 (R8, 41_ring_buffers.md R173). -/
theorem mem_legalCapacities_iff {n : Nat} : n ∈ Config.legalCapacities ↔ ∃ k, 1 ≤ k ∧ k ≤ 8 ∧ n = 2 ^ k := by
  constructor
  · intro h
    simp only [Config.legalCapacities, List.mem_cons, List.not_mem_nil, or_false] at h
    rcases h with h | h | h | h | h | h | h | h
    exacts [⟨1, by simp [h]⟩, ⟨2, by simp [h]⟩, ⟨3, by simp [h]⟩, ⟨4, by simp [h]⟩, ⟨5, by simp [h]⟩,
      ⟨6, by simp [h]⟩, ⟨7, by simp [h]⟩, ⟨8, by simp [h]⟩]
  · rintro ⟨k, h1, h8, rfl⟩
    interval_cases k <;> decide

/-- The check accepts a configuration exactly when each constraint of R8 and R9 holds. -/
theorem valid_iff {c : Config} :
    c.valid = true ↔ 0 < c.fCpu ∧ 1 ≤ c.prescaler ∧ 0 < c.baud ∧ c.nTx ∈ Config.legalCapacities ∧
      c.nRx ∈ Config.legalCapacities ∧ 2 ≤ c.bitPeriod ∧ c.bitPeriod ≤ 256 ∧ c.dEntry < c.halfPeriod := by
  simp only [Config.valid, Bool.and_eq_true, decide_eq_true_eq, List.contains_iff_mem, and_assoc]

theorem build_eq_none_iff {c : Config} {inflight sr : Byte} {cnt : Nibble} :
    Machine.build c inflight sr cnt = none ↔ ¬ c.valid = true := by
  simp [Machine.build]

/-- A block that is built starts in the launch state (R10, 70_reset_and_hazards.md R383). -/
theorem eq_launch_of_build {c : Config} {inflight sr : Byte} {cnt : Nibble} {s : State}
    (h : Machine.build c inflight sr cnt = some s) : s = State.launch c inflight sr cnt := by
  unfold Machine.build at h
  split at h
  · exact (Option.some.inj h).symm
  · cases h

/-- Settles O11: a block is built exactly when the check accepts, and the check accepts exactly when each constraint holds. -/
theorem invalidConfigurationIsNotBuilt : Obligations.InvalidConfigurationIsNotBuilt := by
  intro c inflight sr cnt
  refine ⟨?_, fun _ => eq_launch_of_build⟩
  rw [build_eq_none_iff, valid_iff, mem_legalCapacities_iff, mem_legalCapacities_iff]
  rfl

/-! ### The derived constants -/

/-- `R_S` wraps modulo 256, whatever `R_ADJ` is (R9). -/
theorem reloadSteady_toNat (c : Config) :
    (c.reloadSteady.toNat : Int) = (256 - (c.bitPeriod : Int) + c.rAdj) % 256 := by
  rw [Config.reloadSteady, BitVec.toNat_ofInt]
  exact Int.toNat_of_nonneg (Int.emod_nonneg _ (by decide))

/-- `R_I` needs no modulus: `D_ENTRY < H` keeps it below 256, and `H ≤ 128` keeps it positive (R9). -/
theorem reloadInitial_toNat {c : Config} (hle : c.bitPeriod ≤ 256) (hd : c.dEntry < c.halfPeriod) :
    (c.reloadInitial.toNat : Int) = 256 - (c.halfPeriod : Int) + c.dEntry := by
  have hhalf : c.halfPeriod ≤ 128 := Nat.div_le_div_right (c := 2) hle
  rw [Config.reloadInitial, BitVec.toNat_ofNat, Nat.mod_eq_of_lt (by omega)]
  omega

/-- A ring's mask is `N - 1`: every legal capacity is at most 256, so it fits a byte (R9). -/
theorem mask_toNat {c : Config} (hv : c.valid = true) (r : RingSel) : (c.mask r).toNat = c.capacity r - 1 := by
  have hlt : c.capacity r - 1 < 2 ^ 8 := by
    have hcap := capacity_cases hv r
    simp only [List.mem_cons, List.not_mem_nil, or_false] at hcap
    omega
  rw [Config.mask, BitVec.toNat_ofNat, Nat.mod_eq_of_lt hlt]

/-- Settles O12: each constant that a register holds fits its width, or wraps where R9 says so. -/
theorem derivedConstantsAreTheFormulas : Obligations.DerivedConstantsAreTheFormulas := by
  intro c hv
  obtain ⟨-, -, -, -, -, hge, hle, hd⟩ := valid_iff.mp hv
  exact ⟨rfl, hge, hle, rfl, reloadSteady_toNat c, reloadInitial_toNat hle hd, rfl, rfl, rfl, rfl,
    mask_toNat hv .tx, mask_toNat hv .rx⟩

end Sys2Proof.Proofs
end

section
/-! PROOFS. What every step keeps of the rings (10_state.md R41, 20_memory.md R83). -/

namespace Sys2Proof.Proofs

open Sys2Proof.Machine Sys2Proof.Laws Sys2Proof.Safety

/-! ### One ring -/

/-- A ring buffer fits a configuration: its indices are in range, its storage is canonical and lists no slot out of
range. -/
structure RingFits (c : Config) (r : RingSel) (b : RingBuffer) : Prop where
  head : b.head.toNat < c.capacity r
  tail : b.tail.toNat < c.capacity r
  canonical : Memory.wf b.buf = true
  bounded : ∀ a v, Memory.read? b.buf a = some v → a < c.capacity r

/-- The ring invariants speak of the configuration and the two rings alone. -/
theorem ringInv_iff {s : State} :
    RingInv s ↔ s.cfg.valid = true ∧ RingFits s.cfg .tx s.tx ∧ RingFits s.cfg .rx s.rx := by
  constructor
  · rintro ⟨hv, hr⟩
    obtain ⟨⟨h1, h2⟩, h3, h4⟩ := hr .tx
    obtain ⟨⟨k1, k2⟩, k3, k4⟩ := hr .rx
    exact ⟨hv, ⟨h1, h2, h3, h4⟩, ⟨k1, k2, k3, k4⟩⟩
  · rintro ⟨hv, ht, hr⟩
    refine ⟨hv, fun r => ?_⟩
    cases r
    · exact ⟨⟨ht.head, ht.tail⟩, ht.canonical, ht.bounded⟩
    · exact ⟨⟨hr.head, hr.tail⟩, hr.canonical, hr.bounded⟩

theorem ringFits_ring {s : State} (h : RingInv s) (r : RingSel) : RingFits s.cfg r (s.ring r) := by
  obtain ⟨-, ht, hr⟩ := ringInv_iff.mp h
  cases r
  · exact ht
  · exact hr

/-- What leaves the configuration and the rings alone keeps the ring invariants. -/
theorem ringInv_congr {s t : State} (h : RingInv s) (hc : t.cfg = s.cfg) (ht : t.tx = s.tx) (hr : t.rx = s.rx) :
    RingInv t := by
  rw [ringInv_iff, hc, ht, hr]
  exact ringInv_iff.mp h

theorem ringInv_setStatus {s : State} (h : RingInv s) (st : Status) : RingInv { s with status := st } :=
  ringInv_congr h rfl rfl rfl

theorem ringInv_setInputs {s : State} (h : RingInv s) (waiting : List Request) (rest : List Agent) :
    RingInv { s with inbox := waiting, sched := rest } := ringInv_congr h rfl rfl rfl

theorem ringInv_enterHandler {s : State} (h : RingInv s) (k : Irq) : RingInv (s.enterHandler k) := by
  cases k <;> exact ringInv_congr h rfl rfl rfl

theorem ringInv_setRing {s : State} {r : RingSel} {b : RingBuffer} (h : RingInv s) (hb : RingFits s.cfg r b) :
    RingInv (s.setRing r b) := by
  obtain ⟨hv, ht, hr⟩ := ringInv_iff.mp h
  cases r
  · exact ringInv_iff.mpr ⟨hv, hb, hr⟩
  · exact ringInv_iff.mpr ⟨hv, ht, hb⟩

/-- A legal capacity is positive: slot 0 is there. -/
theorem zero_lt_capacity {c : Config} (hv : c.valid = true) (r : RingSel) : (0 : Byte).toNat < c.capacity r := by
  have h := masked_lt_capacity hv r 0
  exact Nat.lt_of_le_of_lt (Nat.zero_le _) h

/-- A flushed ring fits: its indices are 0, its slots are as they were (R169). -/
theorem RingFits.flush {c : Config} {r : RingSel} {b : RingBuffer} (hv : c.valid = true) (h : RingFits c r b) :
    RingFits c r { b with head := 0, tail := 0 } :=
  ⟨zero_lt_capacity hv r, zero_lt_capacity hv r, h.canonical, h.bounded⟩

/-- A ring with no slot written and indices 0 fits (R65). -/
theorem ringFits_empty {c : Config} (hv : c.valid = true) (r : RingSel) : RingFits c r ⟨0, 0, []⟩ :=
  ⟨zero_lt_capacity hv r, zero_lt_capacity hv r, rfl, fun a v h => by simp [Memory.read?] at h⟩

/-! ### The ring primitives -/

/-- A push writes a slot in range and moves the head there, or does nothing (R160). -/
theorem ringInv_rbPush {r : RingSel} {v : Byte} {s t : State} {b : Bool} (hs : RingInv s)
    (h : rbPush r v s = .ok (b, t)) : RingInv t := by
  have hv := hs.1
  have hr := ringFits_ring hs r
  rcases rbPush_cases hv r v with ⟨-, hp⟩ | ⟨-, hp⟩ <;> cases hp.symm.trans h
  · exact hs
  · have hi := nextIndex_lt_capacity hv r (s.ring r).head
    exact ringInv_setRing hs ⟨hi, hr.tail, wf_write _ _ _ hr.canonical, bounded_write hi hr.bounded⟩

/-- A pop moves the tail to an index in range (R163). -/
theorem ringInv_rbPop {r : RingSel} {v : Byte} {s t : State} (hs : RingInv s) (h : rbPop r s = .ok (v, t)) :
    RingInv t := by
  have hv := hs.1
  have hr := ringFits_ring hs r
  rcases rbPop_cases hv r with ⟨-, hp⟩ | ⟨-, hp⟩ <;> cases hp.symm.trans h
  exact ringInv_setRing hs ⟨hr.head, nextIndex_lt_capacity hv r _, hr.canonical, hr.bounded⟩

theorem ringInv_rbFlush {s : State} (r : RingSel) (h : RingInv s) : RingInv (rbFlush r s) :=
  ringInv_setRing h ((ringFits_ring h r).flush h.1)

theorem ringInv_resetFields {s : State} (h : RingInv s) : RingInv (resetFields s) :=
  ringInv_iff.mpr ⟨h.1, ringFits_empty h.1 .tx, ringFits_empty h.1 .rx⟩

/-! ### The bodies -/

theorem ringInv_pushBody {r : RingSel} {v : Byte} {s u : State} (hs : RingInv s) (h : pushBody r v s = .ok u) :
    RingInv u := by
  unfold pushBody at h
  split at h
  · cases h
  · rename_i hp
    cases h
    exact ringInv_congr (ringInv_rbPush hs hp) rfl rfl rfl

theorem ringInv_popBody {r : RingSel} {s u : State} (hs : RingInv s) (h : popBody r s = .ok u) : RingInv u := by
  unfold popBody at h
  split at h
  · cases h
  · rename_i hp
    cases h
    exact ringInv_congr (ringInv_rbPop hs hp) rfl rfl rfl

theorem ringInv_loadNextByte {s u : State} (hs : RingInv s) (h : loadNextByte s = .ok u) : RingInv u := by
  unfold loadNextByte at h
  split at h
  · cases h
  · rename_i hp
    cases h
    exact ringInv_congr (ringInv_rbPop hs hp) rfl rfl rfl

theorem ringInv_storeReceived {s u : State} (hs : RingInv s) (h : storeReceived s = .ok u) : RingInv u := by
  unfold storeReceived at h
  split at h
  · cases h
  all_goals
    rename_i hp
    have ht := ringInv_rbPush (ringInv_setStatus hs _) hp
    cases h
    exact ringInv_congr ht (by simp) (by simp) (by simp)

/-- The overflow handler reaches a ring only through a pop and a push (R242, R244). -/
theorem ringInv_isrSrOvfBody {s u : State} (hs : RingInv s) (h : isrSrOvfBody s = .ok u) : RingInv u := by
  unfold isrSrOvfBody at h
  split at h
  · split at h
    · cases h
      exact ringInv_congr hs (by simp) (by simp) (by simp)
    · split at h
      · cases h
        exact ringInv_congr hs (by simp) (by simp) (by simp)
      · exact ringInv_loadNextByte hs h
  · split at h
    · exact ringInv_storeReceived hs h
    · cases h

theorem ringInv_isrEdgeBody {s u : State} (hs : RingInv s) (h : isrEdgeBody s = .ok u) : RingInv u := by
  rcases (isrEdgeBody_ok h).2 with ⟨rfl, -⟩ | ⟨rfl, -⟩
  · exact hs
  · exact ringInv_congr hs (by simp) (by simp) (by simp)

theorem ringInv_initReceiverBody {s u : State} (hs : RingInv s) (h : initReceiverBody s = .ok u) : RingInv u := by
  rcases (initReceiverBody_ok h).2 with ⟨rfl, -⟩ | ⟨rfl, -⟩
  · exact ringInv_congr hs rfl rfl rfl
  · exact ringInv_congr hs (by simp) (by simp) (by simp)

theorem ringInv_flushBuffersBody {s u : State} (hs : RingInv s) (h : flushBuffersBody s = .ok u) : RingInv u := by
  obtain ⟨-, rfl⟩ := flushBuffersBody_ok h
  exact ringInv_congr (ringInv_rbFlush .rx (ringInv_rbFlush .tx hs)) rfl rfl rfl

/-- Every command's body keeps the ring invariants: it reaches a ring through a push, a pop, a flush or `RESET`, or not at
all. -/
theorem ringInv_bodyOf {i : Instr} {s u : State} (hs : RingInv s) (h : bodyOf i s = .ok u) : RingInv u := by
  cases i
  case initReceiver => exact ringInv_initReceiverBody hs h
  case flushBuffers => exact ringInv_flushBuffersBody hs h
  case rbPushTx v => exact ringInv_pushBody hs h
  case rbPushRx v => exact ringInv_pushBody hs h
  case rbPopTx => exact ringInv_popBody hs h
  case rbPopRx => exact ringInv_popBody hs h
  case isrEdge => exact ringInv_isrEdgeBody (ringInv_enterHandler hs .edge) h
  case isrSrOvf => exact ringInv_isrSrOvfBody (ringInv_enterHandler hs .srOvf) h
  all_goals simp only [bodyOf, Except.ok.injEq] at h; subst h
  case rbFlushTx => exact ringInv_rbFlush .tx hs
  case rbFlushRx => exact ringInv_rbFlush .rx hs
  case reset => exact ringInv_resetFields hs
  all_goals exact ringInv_congr hs (by simp) (by simp) (by simp)

theorem ringInv_tbSpace {v : Byte} {s u : State} (hs : RingInv s) (h : tbSpace v s = .ok u) : RingInv u := by
  unfold tbSpace at h
  split at h
  · cases h
  all_goals
    rename_i hp
    have ht := ringInv_rbPush hs hp
    cases h
    exact ringInv_congr ht rfl rfl rfl

theorem ringInv_rbWait {s u : State} (hs : RingInv s) (h : rbWait s = .ok u) : RingInv u := by
  unfold rbWait at h
  split at h
  · cases h
    exact hs
  · split at h
    · cases h
    · rename_i hp
      cases h
      exact ringInv_congr (ringInv_rbPop hs hp) rfl rfl rfl

/-- Every micro-step of `MAIN` keeps the ring invariants: `TB_SPACE` pushes, `RB_WAIT` pops, the others reach no ring. -/
theorem ringInv_microStepBody {s u : State} (hs : RingInv s) (h : microStepBody s = .ok u) : RingInv u := by
  unfold microStepBody at h
  split at h
  · cases h
    exact hs
  · exact ringInv_tbSpace hs h
  · cases h
    unfold tbCheck
    split <;> exact ringInv_congr hs rfl rfl rfl
  · cases h
    unfold tbWaitRx
    split
    · exact hs
    · exact ringInv_congr hs (by simp) (by simp) (by simp)
  · exact ringInv_rbWait hs h

/-! ### The step -/

/-- The state a step's command runs in is the machine's but for the words and agents already taken from its inputs. -/
theorem fetchNext_run_inputs {s u : State} {i : Instr} (h : fetchNext s = .run i u) :
    ∃ waiting rest, u = { s with inbox := waiting, sched := rest } := by
  rcases (fetchNext_run h).2 with ⟨-, -, rfl⟩ | ⟨rest, -, -, rfl⟩ | ⟨_, rest, -, -, -, rfl⟩ |
    ⟨_, rest, -, -, -, -, rfl⟩ | ⟨_, waiting, rest, -, -, -, -, -, rfl⟩
  all_goals exact ⟨_, _, rfl⟩

theorem ringInv_exec {i : Instr} {s t : State} (hs : RingInv s) (h : exec i s = .next t) : RingInv t := by
  obtain ⟨-, u, hu, -, rfl⟩ := exec_next h
  exact ringInv_congr (ringInv_bodyOf hs hu) rfl rfl rfl

theorem ringInv_microStep {s t : State} (hs : RingInv s) (h : microStep s = .next t) : RingInv t := by
  obtain ⟨u, hu, -, rfl⟩ := finish_next.mp h
  exact ringInv_congr (ringInv_microStepBody hs hu) rfl rfl rfl

/-- Settles O19: a completed step is a command or a micro-step, and each keeps the invariants. -/
theorem everyStepKeepsTheRingInvariants : Obligations.EveryStepKeepsTheRingInvariants := by
  intro s t hs h
  rcases step_next h with ⟨i, u, hf, hx⟩ | ⟨u, hf, hx⟩
  · obtain ⟨waiting, rest, rfl⟩ := fetchNext_run_inputs hf
    exact ringInv_exec (ringInv_setInputs hs waiting rest) hx
  · obtain ⟨-, rest, -, -, rfl⟩ := fetchNext_micro hf
    exact ringInv_microStep (ringInv_setInputs hs s.inbox rest) hx

end Sys2Proof.Proofs
end

section
/-! PROOFS. Who writes the status flags, the inputs and the records (10_state.md R30 to R35, R52, R57, R60 to R62). -/

namespace Sys2Proof.Proofs

open Sys2Proof.Machine Sys2Proof.Laws

/-! ### Status flags -/

/-- The commands that write a status flag other than `rxOverflow` are `RESET`, `ISR_EDGE` and `ISR_SR_OVF`; no other but
`CLEAR_RX_OVERFLOW` writes any (R35). -/
theorem bodyOf_status {i : Instr} {s u : State} (h : bodyOf i s = .ok u) (hr : i ≠ .reset) (he : i ≠ .isrEdge)
    (hs : i ≠ .isrSrOvf) (hc : i ≠ .clearRxOverflow) : u.status = s.status := by
  cases i
  case reset => exact absurd rfl hr
  case isrEdge => exact absurd rfl he
  case isrSrOvf => exact absurd rfl hs
  case clearRxOverflow => exact absurd rfl hc
  case initReceiver => rcases (initReceiverBody_ok h).2 with ⟨rfl, -⟩ | ⟨rfl, -⟩ <;> simp
  case flushBuffers => obtain ⟨-, rfl⟩ := flushBuffersBody_ok h; simp
  case rbPushTx v => obtain ⟨q, b, rfl⟩ := pushBody_ok h; simp
  case rbPushRx v => obtain ⟨q, b, rfl⟩ := pushBody_ok h; simp
  case rbPopTx => obtain ⟨q, b, rfl⟩ := popBody_ok h; simp
  case rbPopRx => obtain ⟨q, b, rfl⟩ := popBody_ok h; simp
  all_goals simp only [bodyOf, Except.ok.injEq] at h; subst h; simp

/-- The overflow handler never clears `rxOverflow` (R34, 44_transport.md R244). -/
theorem isrSrOvfBody_rxOverflow {s u : State} (h : isrSrOvfBody s = .ok u) (ho : s.status.rxOverflow = true) :
    u.status.rxOverflow = true := by
  rcases isrSrOvfBody_ok h with ⟨-, -, rfl⟩ | ⟨-, -, -, rfl⟩ | ⟨-, -, q, v, rfl⟩ | ⟨-, -, q, o, hkeep, rfl⟩
  · simpa using ho
  · simpa using ho
  · simpa using ho
  · simpa using hkeep ho

/-- Only `RESET` and `CLEAR_RX_OVERFLOW` clear `rxOverflow` (R34). -/
theorem bodyOf_rxOverflow {i : Instr} {s u : State} (h : bodyOf i s = .ok u) (hr : i ≠ .reset)
    (hc : i ≠ .clearRxOverflow) (ho : s.status.rxOverflow = true) : u.status.rxOverflow = true := by
  by_cases he : i = .isrEdge
  · subst he
    rcases (isrEdgeBody_ok h).2 with ⟨rfl, -⟩ | ⟨rfl, -⟩ <;> simpa using ho
  · by_cases hs : i = .isrSrOvf
    · subst hs
      exact isrSrOvfBody_rxOverflow h ho
    · rw [bodyOf_status h hr he hs hc]
      exact ho

/-- A micro-step writes a status flag only in `START_TX`, which `TB_WAIT_RX` performs (46_public_api.md R306). -/
theorem microStepBody_status {s u : State} (h : microStepBody s = .ok u) :
    u.status = s.status ∨ s.mainPc = .tbWaitRx ∧
      u.status = { s.status with txHalfFrameActive := false, txFromBufferActive := true } := by
  rcases microStepBody_ok h with rfl | ⟨v, q, -, rfl⟩ | ⟨-, -, rfl⟩ | ⟨-, -, rfl⟩ | ⟨hpc, -, rfl⟩ | ⟨-, q, v, rfl⟩
  case inr.inr.inr.inr.inl => exact .inr ⟨hpc, by simp⟩
  all_goals exact .inl (by simp)

/-- Settles O52: each body writes the flags its rule names, and `settle` writes none. -/
theorem onlyTheNamedWritersChangeAStatusFlag : Obligations.OnlyTheNamedWritersChangeAStatusFlag := by
  constructor
  · intro i s t h hr he hs
    obtain ⟨-, u, hu, -, rfl⟩ := exec_next h
    by_cases hc : i = .clearRxOverflow
    · subst hc
      cases hu
      exact ⟨rfl, rfl, rfl, fun hne => absurd rfl hne⟩
    · rw [settleEdge_status, bodyOf_status hu hr he hs hc]
      exact ⟨rfl, rfl, rfl, fun _ => rfl⟩
  · intro s t h
    obtain ⟨u, hu, -, rfl⟩ := finish_next.mp h
    rw [settleEdge_status]
    rcases microStepBody_status hu with heq | ⟨hpc, heq⟩ <;> rw [heq]
    · exact ⟨rfl, rfl, fun _ => rfl⟩
    · exact ⟨rfl, rfl, fun hne => absurd hpc hne⟩

/-! ### Inputs and records -/

/-- `u` holds what `s` holds in the configuration, the records and the model's inputs: no command that completes writes them
(R30, R60, R61). -/
def SameRecords (s u : State) : Prop :=
  u.cfg = s.cfg ∧ u.faults = s.faults ∧ u.refused = s.refused ∧ u.inbox = s.inbox ∧ u.sched = s.sched

/-- `u` holds what `s` holds in the far end's level, `GIE` and the ghost time, which only events write (R52, R57, R62). -/
def SameInputs (s u : State) : Prop :=
  u.extLevel = s.extLevel ∧ u.gie = s.gie ∧ u.time = s.time

/-- The four events (30_encoding.md R119). -/
theorem event_cases {i : Instr} (h : i.cmdClass = .event) :
    i = .timeStep ∨ (∃ l, i = .lineSet l) ∨ (∃ g, i = .gieSet g) ∨ i = .reset := by
  cases i
  case timeStep => exact .inl rfl
  case lineSet l => exact .inr (.inl ⟨l, rfl⟩)
  case gieSet g => exact .inr (.inr (.inl ⟨g, rfl⟩))
  case reset => exact .inr (.inr (.inr rfl))
  all_goals cases h

/-- The overflow handler writes no input and no record, whichever of its branches is taken. -/
theorem isrSrOvfBody_same {s u : State} (h : isrSrOvfBody s = .ok u) : SameRecords s u ∧ SameInputs s u := by
  rcases isrSrOvfBody_ok h with ⟨-, -, rfl⟩ | ⟨-, -, -, rfl⟩ | ⟨-, -, q, v, rfl⟩ | ⟨-, -, q, o, -, rfl⟩
  all_goals simp [SameRecords, SameInputs]

/-- A command that is no event writes no input and no record. -/
theorem bodyOf_same {i : Instr} {s u : State} (h : bodyOf i s = .ok u) (hc : i.cmdClass ≠ .event) :
    SameRecords s u ∧ SameInputs s u := by
  cases i
  case timeStep => exact absurd rfl hc
  case lineSet l => exact absurd rfl hc
  case gieSet g => exact absurd rfl hc
  case reset => exact absurd rfl hc
  case isrSrOvf => simpa [SameRecords, SameInputs] using isrSrOvfBody_same (s := s.enterHandler .srOvf) h
  case isrEdge => rcases (isrEdgeBody_ok h).2 with ⟨rfl, -⟩ | ⟨rfl, -⟩ <;> simp [SameRecords, SameInputs]
  case initReceiver => rcases (initReceiverBody_ok h).2 with ⟨rfl, -⟩ | ⟨rfl, -⟩ <;> simp [SameRecords, SameInputs]
  case flushBuffers => obtain ⟨-, rfl⟩ := flushBuffersBody_ok h; simp [SameRecords, SameInputs]
  case rbPushTx v => obtain ⟨q, b, rfl⟩ := pushBody_ok h; simp [SameRecords, SameInputs]
  case rbPushRx v => obtain ⟨q, b, rfl⟩ := pushBody_ok h; simp [SameRecords, SameInputs]
  case rbPopTx => obtain ⟨q, b, rfl⟩ := popBody_ok h; simp [SameRecords, SameInputs]
  case rbPopRx => obtain ⟨q, b, rfl⟩ := popBody_ok h; simp [SameRecords, SameInputs]
  all_goals simp only [bodyOf, Except.ok.injEq] at h; subst h; simp [SameRecords, SameInputs]

theorem bodyOf_records {i : Instr} {s u : State} (h : bodyOf i s = .ok u) : SameRecords s u := by
  by_cases hc : i.cmdClass = .event
  · rcases event_cases hc with rfl | ⟨l, rfl⟩ | ⟨g, rfl⟩ | rfl <;> cases h <;> simp [SameRecords, resetFields]
  · exact (bodyOf_same h hc).1

/-- Only `LINE_SET` writes `EXT_LEVEL` (R52). -/
theorem bodyOf_extLevel {i : Instr} {s u : State} (h : bodyOf i s = .ok u) (hl : ∀ l, i ≠ .lineSet l) :
    u.extLevel = s.extLevel := by
  by_cases hc : i.cmdClass = .event
  · rcases event_cases hc with rfl | ⟨l, rfl⟩ | ⟨g, rfl⟩ | rfl
    case inr.inl => exact absurd rfl (hl l)
    all_goals cases h; simp [resetFields]
  · exact (bodyOf_same h hc).2.1

/-- Only `GIE_SET` and `RESET` write `GIE` (R57). -/
theorem bodyOf_gie {i : Instr} {s u : State} (h : bodyOf i s = .ok u) (hr : i ≠ .reset) (hg : ∀ g, i ≠ .gieSet g) :
    u.gie = s.gie := by
  by_cases hc : i.cmdClass = .event
  · rcases event_cases hc with rfl | ⟨l, rfl⟩ | ⟨g, rfl⟩ | rfl
    case inr.inr.inl => exact absurd rfl (hg g)
    case inr.inr.inr => exact absurd rfl hr
    all_goals cases h; simp
  · exact (bodyOf_same h hc).2.2.1

/-- Only `TIME_STEP` advances the ghost time, by one (R62). -/
theorem bodyOf_time {i : Instr} {s u : State} (h : bodyOf i s = .ok u) :
    u.time = s.time + (if i = .timeStep then 1 else 0) := by
  by_cases hc : i.cmdClass = .event
  · rcases event_cases hc with rfl | ⟨l, rfl⟩ | ⟨g, rfl⟩ | rfl <;> cases h <;> simp [resetFields]
  · have hne : i ≠ .timeStep := fun heq => hc (by rw [heq]; rfl)
    rw [if_neg hne]
    exact (bodyOf_same h hc).2.2.2

theorem microStepBody_same {s u : State} (h : microStepBody s = .ok u) : SameRecords s u ∧ SameInputs s u := by
  rcases microStepBody_ok h with rfl | ⟨v, q, -, rfl⟩ | ⟨-, -, rfl⟩ | ⟨-, -, rfl⟩ | ⟨-, -, rfl⟩ | ⟨-, q, v, rfl⟩
  all_goals simp [SameRecords, SameInputs]

theorem microStepBody_rxOverflow {s u : State} (h : microStepBody s = .ok u) :
    u.status.rxOverflow = s.status.rxOverflow := by
  rcases microStepBody_status h with heq | ⟨-, heq⟩ <;> rw [heq]

/-- Settles O53: the bodies write as stated, and `settle` writes none of these. -/
theorem onlyTheNamedCommandsWriteInputsAndRecords : Obligations.OnlyTheNamedCommandsWriteInputsAndRecords := by
  constructor
  · intro i s t h
    obtain ⟨-, u, hu, -, rfl⟩ := exec_next h
    obtain ⟨hcfg, hfaults, hrefused, hinbox, hsched⟩ := bodyOf_records hu
    have hlevel := bodyOf_extLevel hu
    have hgie := bodyOf_gie hu
    have htime := bodyOf_time hu
    have hoverflow := bodyOf_rxOverflow hu
    exact ⟨hcfg, hfaults, hrefused, hinbox, hsched, hlevel, hgie, htime, hoverflow⟩
  · intro s t h
    obtain ⟨u, hu, -, rfl⟩ := finish_next.mp h
    obtain ⟨⟨hcfg, hfaults, hrefused, hinbox, hsched⟩, hlevel, hgie, htime⟩ := microStepBody_same hu
    have hoverflow := microStepBody_rxOverflow hu
    exact ⟨hcfg, hfaults, hrefused, hinbox, hsched, hlevel, hgie, htime, hoverflow⟩

end Sys2Proof.Proofs
end

section
/-! PROOFS. Ghost time influences nothing (10_state.md R62): every function of the model commutes with a shift of `T`. -/

namespace Sys2Proof.Proofs

open Sys2Proof.Machine Sys2Proof.Laws Sys2Proof.Claims

/-- The state with its ghost time shifted by `n`. -/
def later (n : Nat) (s : State) : State := { s with time := s.time + n }

@[simp] theorem later_cfg (n : Nat) (s : State) : (later n s).cfg = s.cfg := rfl
@[simp] theorem later_mainPc (n : Nat) (s : State) : (later n s).mainPc = s.mainPc := rfl
@[simp] theorem later_inbox (n : Nat) (s : State) : (later n s).inbox = s.inbox := rfl
@[simp] theorem later_sched (n : Nat) (s : State) : (later n s).sched = s.sched := rfl

/-- What comes next, with the ghost time of the state it holds shifted by `n`. -/
def fetchedLater (n : Nat) : Fetched → Fetched
  | .run i s => .run i (later n s)
  | .micro s => .micro (later n s)
  | .refusal reason s => .refusal reason (later n s)
  | .none (.raised c s) => .none (.raised c (later n s))
  | .none .quiescent => .none .quiescent
  | .none .noAgentStep => .none .noAgentStep

/-! ### Ends of a step -/

theorem settle_later (n : Nat) (s : State) : settle (later n s) = outcomeLater n (settle s) := by
  cases h : s.collides
  · rw [settle_of_not_collides h, settle_of_not_collides (s := later n s) h]
    rfl
  · rw [settle_of_collides h, settle_of_collides (s := later n s) h]
    rfl

theorem finish_later (n : Nat) (s : State) (body : Except FaultCode State) :
    finish (later n s) (body.map (later n)) = outcomeLater n (finish s body) := by
  cases body with
  | error c => rfl
  | ok u => exact settle_later n u

/-! ### The peripherals -/

theorem timerWrite_later (n : Nat) (v : Byte) (s : State) : timerWrite v (later n s) = later n (timerWrite v s) := rfl

theorem timerStart_later (n : Nat) (s : State) : timerStart (later n s) = later n (timerStart s) := rfl

theorem srWriteData_later (n : Nat) (v : Byte) (s : State) : srWriteData v (later n s) = later n (srWriteData v s) := rfl

theorem srConfigure_later (n : Nat) (m : SrMode) (k : ClkSource) (s : State) :
    srConfigure m k (later n s) = later n (srConfigure m k s) := rfl

theorem srSetSeed_later (n : Nat) (v : Nibble) (s : State) : srSetSeed v (later n s) = later n (srSetSeed v s) := rfl

theorem srClearFlag_later (n : Nat) (s : State) : srClearFlag (later n s) = later n (srClearFlag s) := rfl

theorem srEnableOvfIrq_later (n : Nat) (e : Bool) (s : State) :
    srEnableOvfIrq e (later n s) = later n (srEnableOvfIrq e s) := rfl

theorem edgeDisarm_later (n : Nat) (s : State) : edgeDisarm (later n s) = later n (edgeDisarm s) := rfl

/-- `START_TX` is a sequence of primitives, each of which commutes with the shift (R210). -/
theorem startTx_later (n : Nat) (s : State) : startTx (later n s) = later n (startTx s) := by
  have hper : startTxPeripherals (later n s) = later n (startTxPeripherals s) := by
    rw [startTxPeripherals, later_cfg, timerWrite_later, timerStart_later, srWriteData_later, srConfigure_later,
      srSetSeed_later, srClearFlag_later, srEnableOvfIrq_later, edgeDisarm_later]
    rfl
  rw [startTx, hper]
  rfl

/-- `START_RX` likewise (R216). -/
theorem startRx_later (n : Nat) (s : State) : startRx (later n s) = later n (startRx s) := by
  have hper : startRxPeripherals (later n s) = later n (startRxPeripherals s) := by
    rw [startRxPeripherals, later_cfg, timerWrite_later, timerStart_later, srConfigure_later, srSetSeed_later,
      srClearFlag_later, srEnableOvfIrq_later, edgeDisarm_later]
    rfl
  rw [startRx, hper]
  rfl

/-! ### The bodies -/

theorem setRing_later (n : Nat) (s : State) (r : RingSel) (b : RingBuffer) :
    (later n s).setRing r b = later n (s.setRing r b) := by
  cases r <;> rfl

theorem ring_later (n : Nat) (s : State) (r : RingSel) : (later n s).ring r = s.ring r := by
  cases r <;> rfl

theorem memRead_later (n : Nat) (r : RingSel) (i : Byte) (s : State) : memRead r i (later n s) = memRead r i s := by
  cases r <;> rfl

theorem memWrite_later (n : Nat) (r : RingSel) (i v : Byte) (s : State) :
    memWrite r i v (later n s) = (memWrite r i v s).map (later n) := by
  unfold memWrite
  rw [apply_ite (Except.map (later n)), ring_later, setRing_later]
  rfl

theorem isEmpty_later (n : Nat) (r : RingSel) (s : State) : (later n s).isEmpty r = s.isEmpty r := by
  cases r <;> rfl

theorem isFull_later (n : Nat) (r : RingSel) (s : State) : (later n s).isFull r = s.isFull r := by
  cases r <;> rfl

theorem nextIndex_later (n : Nat) (r : RingSel) (i : Byte) (s : State) :
    (later n s).nextIndex r i = s.nextIndex r i := rfl

theorem rbPush_later (n : Nat) (r : RingSel) (v : Byte) (s : State) :
    rbPush r v (later n s) = (rbPush r v s).map (Prod.map id (later n)) := by
  unfold rbPush
  rw [isFull_later, nextIndex_later, ring_later, memWrite_later]
  split
  · rfl
  · cases memWrite r (s.nextIndex r (s.ring r).head) v s with
    | error c => rfl
    | ok t => simp [Except.map, setRing_later, ring_later]

theorem rbPop_later (n : Nat) (r : RingSel) (s : State) :
    rbPop r (later n s) = (rbPop r s).map (Prod.map id (later n)) := by
  unfold rbPop
  rw [isEmpty_later, nextIndex_later, ring_later, memRead_later]
  split
  · rfl
  · cases memRead r (s.nextIndex r (s.ring r).tail) s with
    | error c => rfl
    | ok v => simp [Except.map, setRing_later]

theorem pushBody_later (n : Nat) (r : RingSel) (v : Byte) (s : State) :
    pushBody r v (later n s) = (pushBody r v s).map (later n) := by
  unfold pushBody
  rw [rbPush_later]
  cases rbPush r v s <;> rfl

theorem popBody_later (n : Nat) (r : RingSel) (s : State) :
    popBody r (later n s) = (popBody r s).map (later n) := by
  unfold popBody
  rw [rbPop_later]
  cases rbPop r s <;> rfl

theorem initReceiverBody_later (n : Nat) (s : State) :
    initReceiverBody (later n s) = (initReceiverBody s).map (later n) := by
  unfold initReceiverBody
  rw [apply_ite (Except.map (later n)), apply_ite (Except.map (later n))]
  rfl

theorem flushBuffersBody_later (n : Nat) (s : State) :
    flushBuffersBody (later n s) = (flushBuffersBody s).map (later n) := by
  unfold flushBuffersBody
  rw [apply_ite (Except.map (later n))]
  rfl

theorem isrEdgeBody_later (n : Nat) (s : State) : isrEdgeBody (later n s) = (isrEdgeBody s).map (later n) := by
  unfold isrEdgeBody
  rw [startRx_later, apply_ite (Except.map (later n)), apply_ite (Except.map (later n))]
  rfl

theorem loadNextByte_later (n : Nat) (s : State) : loadNextByte (later n s) = (loadNextByte s).map (later n) := by
  unfold loadNextByte
  rw [rbPop_later]
  cases rbPop .tx s <;> rfl

theorem storeReceived_later (n : Nat) (s : State) : storeReceived (later n s) = (storeReceived s).map (later n) := by
  have hpush : rbPush .rx (later n s).shift.sr
      { later n s with status := { (later n s).status with rxPackageActive := false } } = _ :=
    rbPush_later n .rx s.shift.sr { s with status := { s.status with rxPackageActive := false } }
  unfold storeReceived
  rw [hpush]
  rcases rbPush .rx s.shift.sr { s with status := { s.status with rxPackageActive := false } } with
    c | ⟨_ | _, t⟩ <;> rfl

theorem isrSrOvfBody_later (n : Nat) (s : State) : isrSrOvfBody (later n s) = (isrSrOvfBody s).map (later n) := by
  unfold isrSrOvfBody
  rw [isEmpty_later, loadNextByte_later, storeReceived_later]
  simp only [apply_ite (Except.map (later n))]
  rfl

theorem shiftTick_later (n : Nat) (s : State) : shiftTick (later n s) = later n (shiftTick s) := by
  unfold shiftTick
  rw [apply_ite (later n)]
  rfl

theorem countStep_later (n : Nat) (s : State) : countStep (later n s) = later n (countStep s) := by
  unfold countStep
  rw [apply_ite (later n), apply_ite (later n), ← shiftTick_later]
  rfl

theorem timeStep_later (n : Nat) (s : State) :
    { later n s with time := (later n s).time + 1 } = later n { s with time := s.time + 1 } := by
  simp only [later, Nat.add_right_comm]

/-- Every command's body commutes with the shift; `TIME_STEP` counts from the shifted time. -/
theorem bodyOf_later (n : Nat) (i : Instr) (s : State) : bodyOf i (later n s) = (bodyOf i s).map (later n) := by
  cases i
  case initReceiver => exact initReceiverBody_later n s
  case flushBuffers => exact flushBuffersBody_later n s
  case rbPushTx v => exact pushBody_later n .tx v s
  case rbPushRx v => exact pushBody_later n .rx v s
  case rbPopTx => exact popBody_later n .tx s
  case rbPopRx => exact popBody_later n .rx s
  case isrEdge => exact isrEdgeBody_later n (s.enterHandler .edge)
  case isrSrOvf => exact isrSrOvfBody_later n (s.enterHandler .srOvf)
  case timeStep =>
    simp only [bodyOf]
    rw [timeStep_later, countStep_later]
    rfl
  all_goals rfl

/-- A command's step commutes with the shift, and so does its refusal. -/
theorem exec_later (n : Nat) (i : Instr) (s : State) : exec i (later n s) = outcomeLater n (exec i s) := by
  cases hr : refusedForm i
  · rw [exec_eq_finish i _ hr, exec_eq_finish i _ hr, bodyOf_later, finish_later]
  · cases i
    case srConfigure m k =>
      by_cases hm : m = .reserved
      · simp only [exec, execSrConfigure, if_pos hm]
        rfl
      · have hk : k = .toggle := by simpa [refusedForm, hm] using hr
        simp only [exec, execSrConfigure, if_neg hm, if_pos hk]
        rfl
    all_goals cases hr

theorem tbSpace_later (n : Nat) (v : Byte) (s : State) : tbSpace v (later n s) = (tbSpace v s).map (later n) := by
  unfold tbSpace
  rw [rbPush_later]
  rcases rbPush .tx v s with c | ⟨_ | _, t⟩ <;> rfl

theorem rbWait_later (n : Nat) (s : State) : rbWait (later n s) = (rbWait s).map (later n) := by
  unfold rbWait
  rw [isEmpty_later, rbPop_later, apply_ite (Except.map (later n))]
  cases rbPop .rx s <;> rfl

theorem microStepBody_later (n : Nat) (s : State) :
    microStepBody (later n s) = (microStepBody s).map (later n) := by
  unfold microStepBody
  rw [later_mainPc]
  cases s.mainPc with
  | ready => rfl
  | tbSpace v => exact tbSpace_later n v s
  | tbCheck => simp only [tbCheck, Except.map, apply_ite (later n)]; rfl
  | tbWaitRx => simp only [tbWaitRx, startTx_later, Except.map, apply_ite (later n)]; rfl
  | rbWait => exact rbWait_later n s

theorem microStep_later (n : Nat) (s : State) : microStep (later n s) = outcomeLater n (microStep s) := by
  rw [microStep, microStepBody_later, finish_later]
  rfl

/-! ### The step -/

theorem acceptWord_later (n : Nat) (q : Request) (s : State) :
    acceptWord q (later n s) = fetchedLater n (acceptWord q s) := by
  unfold acceptWord
  cases decode q.word with
  | invalid e => rfl
  | instr i => simp only [apply_ite (fetchedLater n)]; rfl

theorem mainFetch_later (n : Nat) (s : State) : mainFetch (later n s) = fetchedLater n (mainFetch s) := by
  unfold mainFetch
  rw [apply_ite (fetchedLater n)]
  congr 1
  rw [later_inbox]
  cases s.inbox with
  | nil => rfl
  | cons q rest => exact acceptWord_later n q { s with inbox := rest }

theorem envFetch_later (n : Nat) (w : Word) (s : State) :
    envFetch w (later n s) = fetchedLater n (envFetch w s) := by
  unfold envFetch
  cases decode w with
  | invalid e => rfl
  | instr i => simp only [apply_ite (fetchedLater n)]; rfl

theorem agentFetch_later (n : Nat) (a : Agent) (s : State) :
    agentFetch a (later n s) = fetchedLater n (agentFetch a s) := by
  cases a with
  | main => exact mainFetch_later n s
  | handler h =>
    simp only [agentFetch, apply_ite (fetchedLater n)]
    cases h <;> rfl
  | clock => rfl
  | env w => exact envFetch_later n w s

theorem fetchNext_later (n : Nat) (s : State) : fetchNext (later n s) = fetchedLater n (fetchNext s) := by
  unfold fetchNext
  rw [apply_ite (fetchedLater n)]
  congr 1
  rw [later_sched]
  cases s.sched with
  | nil => rfl
  | cons a rest => exact agentFetch_later n a { s with sched := rest }

/-- Settles O56: the fetch, every command, every micro-step and the end of a step commute with the shift. -/
theorem ghostTimeInfluencesNothing : Obligations.GhostTimeInfluencesNothing := by
  intro s n
  change step (later n s) = _
  unfold step
  rw [fetchNext_later]
  cases fetchNext s with
  | run i t => exact exec_later n i t
  | micro t => exact microStep_later n t
  | refusal reason t => rfl
  | none f => cases f <;> rfl

end Sys2Proof.Proofs
end

section
/-! PROOFS. The reset table and the packed control registers (10_state.md R36, R65; 30_encoding.md R123). -/

namespace Sys2Proof.Proofs

open Sys2Proof.Machine Sys2Proof.Laws Sys2Proof.Claims

/-! ### Reset -/

/-- After `RESET` the block does not drive the line, so `settle` raises nothing (R380). -/
theorem resetFields_collides (s : State) : (resetFields s).collides = false := rfl

/-- `settle` writes nothing where the edge detector has seen the level (R205). -/
theorem settleEdge_eq_self {s : State} (h : s.line = s.edge.lastLevel) : s.settleEdge = s := by
  unfold State.settleEdge
  rw [h, bne_self_eq_false, Bool.or_false]

/-- `RESET` completes in every state, and `settle` adds nothing: the line it releases shows the level it has sampled
(R65, R380; log 17). -/
theorem exec_reset (s : State) : exec .reset s = .next (resetFields s) := by
  rw [exec, execReset, finish_ok, settle_of_not_collides (resetFields_collides s), settleEdge_eq_self rfl]

theorem resetTable_resetFields (s : State) : ResetTable (resetFields s) := by
  simp [ResetTable, resetFields]

theorem resetTable_launch (c : Config) (inflight sr : Byte) (cnt : Nibble) :
    ResetTable (State.launch c inflight sr cnt) := by
  simp [ResetTable, State.launch]

/-- Settles O13: `RESET` writes the table's values, which are those of the launch state. -/
theorem resetSetsTheResetTable : Obligations.ResetSetsTheResetTable := by
  constructor
  · intro s
    exact ⟨resetFields s, exec_reset s, resetTable_resetFields s, rfl, rfl, rfl, rfl, rfl, rfl, rfl⟩
  · intro c inflight sr cnt
    exact ⟨resetTable_launch c inflight sr cnt, rfl, rfl, rfl, rfl⟩

/-! ### Packed registers -/

/-- A packed byte's bits 7:5 read as 0 (R123). -/
theorem packByte_lt (b0 b1 b2 b3 b4 : Bool) : (packByte b0 b1 b2 b3 b4).toNat < 32 := by
  revert b0 b1 b2 b3 b4; decide

/-- With bit 4 unused, bits 7:4 read as 0 (R36). -/
theorem packByte_four_lt (b0 b1 b2 b3 : Bool) : (packByte b0 b1 b2 b3 false).toNat < 16 := by
  revert b0 b1 b2 b3; decide

/-- With bits 4:3 unused, bits 7:3 read as 0 (R123). -/
theorem packByte_three_lt (b0 b1 b2 : Bool) : (packByte b0 b1 b2 false false).toNat < 8 := by
  revert b0 b1 b2; decide

/-- A two-bit field packed into bits 1:0 reads back (R49, R123). -/
theorem packByte_extractLsb'_two (m : BitVec 2) (b2 b3 b4 : Bool) :
    (packByte (m.getLsbD 0) (m.getLsbD 1) b2 b3 b4).extractLsb' 0 2 = m := by
  revert m b2 b3 b4; decide

/-- Settles O60: each register is a packed byte of its flags. -/
theorem packedRegistersHaveTheirLayouts : Obligations.PackedRegistersHaveTheirLayouts := by
  intro s
  refine ⟨?status, ?tctl, ?srctl, ?edgectl⟩
  case status =>
    obtain ⟨h0, h1, h2, h3, -⟩ := packByte_getLsbD s.status.txFromBufferActive s.status.txHalfFrameActive
      s.status.rxPackageActive s.status.rxOverflow false
    exact ⟨h0, h1, h2, h3, packByte_four_lt _ _ _ _⟩
  case tctl =>
    obtain ⟨h0, h1, h2, -, -⟩ := packByte_getLsbD s.timer.run s.timer.ovfIe s.timer.ovfFlag false false
    exact ⟨h0, h1, h2, packByte_three_lt _ _ _⟩
  case srctl =>
    obtain ⟨-, -, h2, h3, h4⟩ := packByte_getLsbD ((modeBits s.shift.mode).getLsbD 0)
      ((modeBits s.shift.mode).getLsbD 1) (clkBit s.shift.clk) s.shift.ovfIe s.shift.ovfFlag
    exact ⟨packByte_extractLsb'_two _ _ _ _, h2, h3, h4, packByte_lt _ _ _ _ _⟩
  case edgectl =>
    obtain ⟨h0, h1, h2, -, -⟩ := packByte_getLsbD s.edge.ie s.edge.flag s.edge.lastLevel false false
    exact ⟨h0, h1, h2, packByte_three_lt _ _ _⟩

end Sys2Proof.Proofs
end

section
/-! PROOFS. The decoder, the encoder and the opcode table describe the same words (30_encoding.md R110 to R122). -/

namespace Sys2Proof.Proofs

open Sys2Proof.Machine Sys2Proof.Laws Sys2Proof.Claims

/-! ### Decode of encode -/

/-- Settles O1: the decoder reads the fields back, and each operand form reads its operand back. -/
theorem decodeOfEncodeIsIdentity : Obligations.DecodeOfEncodeIsIdentity := by
  intro i hi
  cases i
  case srConfigure m k =>
    exact (decode_wordOf _ _ _).trans (configureOperand_configureImm m k (by rintro rfl; cases hi))
  case srSetSeed n => exact (decode_wordOf _ _ _).trans (seedOperand_seedImm n)
  case srEnableOvfIrq b | lineSet b | gieSet b => exact (decode_wordOf _ _ _).trans (bitOperand_bitImm b _)
  all_goals exact decode_wordOf _ _ _

/-! ### Encode of decode -/

/-- A command that `d` decodes to is well formed and has the operand byte `m` under the row `c`, `o`. -/
def DecodedFrom (c o : Nibble) (m : Byte) (d : Decoded) : Prop :=
  ∀ i, d = .instr i → i.wf = true ∧ encode i = wordOf c o m

theorem decodedFrom_invalid (c o : Nibble) (m : Byte) (e : DecodeError) : DecodedFrom c o m (.invalid e) := nofun

theorem decodedFrom_instr {c o : Nibble} {m : Byte} {i : Instr} (hw : i.wf = true) (he : encode i = wordOf c o m) :
    DecodedFrom c o m (.instr i) := by
  rintro _ ⟨⟩
  exact ⟨hw, he⟩

theorem decodedFrom_noOperand {c o : Nibble} {i : Instr} (hw : i.wf = true) (he : encode i = wordOf c o 0) (m : Byte) :
    DecodedFrom c o m (noOperand m i) := by
  intro j h
  obtain ⟨rfl, rfl⟩ := noOperand_instr h
  exact ⟨hw, he⟩

/-- A one-bit operand's byte is its bit in its place (R115, R119). -/
theorem bitImm_getLsbD_zero {m : Byte} (h : m.extractLsb' 1 7 = 0) : bitImm (m.getLsbD 0) = m := by
  revert m; decide

theorem decodedFrom_bitOperand {c o : Nibble} {f : Bool → Instr} (hw : ∀ b, (f b).wf = true)
    (he : ∀ b, encode (f b) = wordOf c o (bitImm b)) (m : Byte) : DecodedFrom c o m (bitOperand m f) := by
  unfold bitOperand
  split
  case isTrue h => exact decodedFrom_instr (hw _) (by rw [he, bitImm_getLsbD_zero h])
  case isFalse => exact decodedFrom_invalid c o m _

/-- A seed's byte is its low four bits in their place (R115). -/
theorem seedImm_extractLsb' {m : Byte} (h : m.extractLsb' 4 4 = 0) : seedImm (m.extractLsb' 0 4) = m := by
  revert m; decide

theorem decodedFrom_seedOperand (m : Byte) : DecodedFrom 0x3 0x1 m (seedOperand m) := by
  unfold seedOperand
  split
  case isTrue h => exact decodedFrom_instr rfl (by rw [encode, seedImm_extractLsb' h])
  case isFalse => exact decodedFrom_invalid _ _ m _

/-- MODE and CLK in their places make the byte they were read from (R115). -/
theorem configureImm_fields {m : Byte} (h : m.extractLsb' 3 5 = 0) :
    configureImm (modeOfBits (m.extractLsb' 0 2)) (clkOfBit (m.getLsbD 2)) = m := by
  revert m; decide

theorem modeOfBits_legal {b : BitVec 2} (h : b ≠ 3) : (modeOfBits b).legal = true := by
  revert b; decide

theorem decodedFrom_configureOperand (m : Byte) : DecodedFrom 0x3 0x0 m (configureOperand m) := by
  unfold configureOperand
  split
  case isTrue h =>
    split
    case isTrue => exact decodedFrom_invalid _ _ m _
    case isFalse hm => exact decodedFrom_instr (modeOfBits_legal hm) (by rw [encode, configureImm_fields h])
  case isFalse => exact decodedFrom_invalid _ _ m _

/-- The opcode map row by row: what a pair of CLASS and OP decodes to has that CLASS and OP (R112 to R119). -/
theorem decodedFrom_decodeFields (c o : Nat) (m : Byte) :
    DecodedFrom (BitVec.ofNat 4 c) (BitVec.ofNat 4 o) m (decodeFields c o m) := by
  unfold decodeFields
  split
  case h_9 => exact decodedFrom_invalid _ _ m _
  all_goals
    split <;>
      apply_rules [decodedFrom_invalid, decodedFrom_instr, decodedFrom_noOperand, decodedFrom_bitOperand,
        decodedFrom_seedOperand, decodedFrom_configureOperand]

/-- Settles O2: a word is its three fields, and the row that its CLASS and OP select gives the word back. -/
theorem encodeOfDecodeIsIdentity : Obligations.EncodeOfDecodeIsIdentity := by
  intro w i h
  have hrow := decodedFrom_decodeFields (classField w).toNat (opField w).toNat (immField w) i h
  rwa [BitVec.ofNat_toNat, BitVec.ofNat_toNat, BitVec.setWidth_eq, BitVec.setWidth_eq, wordOf_fields] at hrow

/-! ### The opcode table -/

/-- The bits of IMM that a command's row fixes, all at 0: those above the operand (R112 to R119). -/
def fixedImm : Instr → Byte
  | .transmitByte _ | .rbPushTx _ | .rbPushRx _ | .reverseBits _ | .srWriteData _ | .timerWrite _ | .timerAdd _ => 0x00
  | .srConfigure _ _ => 0xF8
  | .srSetSeed _ => 0xF0
  | .srEnableOvfIrq _ | .lineSet _ | .gieSet _ => 0xFE
  | _ => 0xFF

/-- A command's row: CLASS and OP are fixed at those of its word, and IMM's fixed bits at 0. -/
def rowOf (i : Instr) : OpcodeRow :=
  ⟨wordOf (classField (encode i)) (opField (encode i)) 0, wordOf 0xF 0xF (fixedImm i)⟩

/-- The table holds a command's row in its place. -/
theorem opcodeRows_getElem?_rowIndex (i : Instr) : opcodeRows[rowIndex i]? = some (rowOf i) := by
  cases i <;> simp only [rowOf, encode, classField_wordOf, opField_wordOf, rowIndex, fixedImm] <;> decide

/-- One command of each row, in the table's order. -/
def commandsInOrder : List Instr :=
  [.initReceiver, .transmitByte 0, .receiveByte, .dataAvailable, .flushBuffers, .readRxOverflow, .clearRxOverflow,
   .rbPushTx 0, .rbPushRx 0, .rbPopTx, .rbPopRx, .rbIsEmptyTx, .rbIsEmptyRx, .rbFlushTx, .rbFlushRx, .reverseBits 0,
   .srConfigure .off .timerOvf, .srSetSeed 0, .srReadData, .srWriteData 0, .srEnableOvfIrq false, .srClearFlag,
   .timerWrite 0, .timerAdd 0, .timerStart, .timerStop, .edgeArm, .edgeDisarm, .lineRead, .isrEdge, .isrTimerOvf,
   .isrSrOvf, .timeStep, .lineSet false, .gieSet false, .reset]

theorem map_rowOf_commandsInOrder : commandsInOrder.map rowOf = opcodeRows := by decide

/-- The table holds no other rows. -/
theorem exists_rowOf_eq {r : OpcodeRow} (h : r ∈ opcodeRows) : ∃ i, rowOf i = r := by
  rw [← map_rowOf_commandsInOrder, List.mem_map] at h
  obtain ⟨i, -, hi⟩ := h
  exact ⟨i, hi⟩

/-- The CLASS and OP that a row fixes. -/
def rowKey (r : OpcodeRow) : Nibble × Nibble := (classField r.pattern, opField r.pattern)

/-- No two rows fix the same CLASS and OP. -/
theorem nodup_rowKeys : (opcodeRows.map rowKey).Nodup := by decide

/-- Masking a word masks its fields. -/
theorem wordOf_and_wordOf (c o c' o' : Nibble) (m m' : Byte) :
    wordOf c o m &&& wordOf c' o' m' = wordOf (c &&& c') (o &&& o') (m &&& m') := by
  apply BitVec.eq_of_getLsbD_eq
  intro i _
  simp only [BitVec.getLsbD_and, getLsbD_wordOf]
  split_ifs <;> rfl

theorem wordOf_inj {c o c' o' : Nibble} {m m' : Byte} :
    wordOf c o m = wordOf c' o' m' ↔ c = c' ∧ o = o' ∧ m = m' := by
  constructor
  · intro h
    exact ⟨by simpa using congrArg classField h, by simpa using congrArg opField h, by simpa using congrArg immField h⟩
  · rintro ⟨rfl, rfl, rfl⟩
    rfl

/-- A word matches a command's row when its CLASS and OP are the command's and IMM's fixed bits are 0 (R121). -/
theorem rowOf_matchesWord {i : Instr} {w : Word} :
    (rowOf i).matchesWord w = true ↔
      classField w = classField (encode i) ∧ opField w = opField (encode i) ∧ immField w &&& fixedImm i = 0 := by
  have hall : ∀ x : Nibble, x &&& 0xF = x := by decide
  rw [OpcodeRow.matchesWord, rowOf, beq_iff_eq, ← wordOf_fields w, wordOf_and_wordOf, hall, hall, wordOf_inj,
    wordOf_fields]

/-- A command's operand leaves the fixed bits of IMM at 0. -/
theorem immField_encode_and_fixedImm (i : Instr) : immField (encode i) &&& fixedImm i = 0 := by
  cases i
  case srConfigure m k => cases m <;> cases k <;> rfl
  case srSetSeed n => revert n; decide
  case srEnableOvfIrq b | lineSet b | gieSet b => cases b <;> rfl
  case transmitByte v | rbPushTx v | rbPushRx v | reverseBits v | srWriteData v | timerWrite v | timerAdd v =>
    exact BitVec.and_zero
  all_goals rfl

/-- The command's word matches the row in its place and no other. -/
theorem matchesWord_encode_iff (i : Instr) {n : Nat} (h : n < opcodeRows.length) :
    opcodeRows[n].matchesWord (encode i) = true ↔ n = rowIndex i := by
  obtain ⟨hlt, hrow⟩ := List.getElem?_eq_some_iff.mp (opcodeRows_getElem?_rowIndex i)
  constructor
  · intro hm
    obtain ⟨j, hj⟩ := exists_rowOf_eq (List.getElem_mem h)
    rw [← hj] at hm
    obtain ⟨hc, ho, -⟩ := rowOf_matchesWord.mp hm
    have hkey : rowKey opcodeRows[n] = rowKey opcodeRows[rowIndex i] := by
      rw [← hj, hrow]
      simp [rowKey, rowOf, hc, ho]
    have hn := nodup_rowKeys.getElem_inj_iff (i := n) (j := rowIndex i) (hi := by simpa) (hj := by simpa)
    simpa [hkey] using hn
  · rintro rfl
    rw [hrow]
    exact rowOf_matchesWord.mpr ⟨rfl, rfl, immField_encode_and_fixedImm i⟩

/-! ### Operands that decode -/

theorem exists_noOperand {m : Byte} (h : m &&& 0xFF = 0) (i : Instr) : ∃ j, noOperand m i = .instr j := by
  have hm : m = 0 := by revert m; decide
  exact ⟨i, if_pos hm⟩

theorem exists_bitOperand {m : Byte} (h : m &&& 0xFE = 0) (f : Bool → Instr) : ∃ j, bitOperand m f = .instr j := by
  have hm : m.extractLsb' 1 7 = 0 := by revert m; decide
  exact ⟨_, if_pos hm⟩

theorem exists_seedOperand {m : Byte} (h : m &&& 0xF0 = 0) : ∃ j, seedOperand m = .instr j := by
  have hm : m.extractLsb' 4 4 = 0 := by revert m; decide
  exact ⟨_, if_pos hm⟩

theorem exists_configureOperand {m : Byte} (h : m &&& 0xF8 = 0) (hmode : m.extractLsb' 0 2 ≠ 3) :
    ∃ j, configureOperand m = .instr j := by
  have hm : m.extractLsb' 3 5 = 0 := by clear hmode; revert m; decide
  exact ⟨_, (if_pos hm).trans (if_neg hmode)⟩

/-- Every `SR_CONFIGURE` has the one row. -/
theorem rowOf_srConfigure (k : SrMode) (l : ClkSource) : rowOf (.srConfigure k l) = ⟨0x3000, 0xFFF8⟩ := by
  simp only [rowOf, encode, classField_wordOf, opField_wordOf, fixedImm]
  decide

/-- A row's CLASS and OP with IMM's fixed bits at 0 decode to a command, but for MODE = 3 (R121). -/
theorem exists_decode_of_row (i : Instr) {m : Byte} (h : m &&& fixedImm i = 0)
    (hmode : rowOf i = ⟨0x3000, 0xFFF8⟩ → m.extractLsb' 0 2 ≠ 3) :
    ∃ j, decode (wordOf (classField (encode i)) (opField (encode i)) m) = .instr j := by
  cases i <;> simp only [encode, classField_wordOf, opField_wordOf, decode_wordOf]
  case srConfigure => exact exists_configureOperand h (hmode (rowOf_srConfigure _ _))
  case srSetSeed => exact exists_seedOperand h
  case srEnableOvfIrq | lineSet | gieSet => exact exists_bitOperand h _
  case transmitByte | rbPushTx | rbPushRx | reverseBits | srWriteData | timerWrite | timerAdd => exact ⟨_, rfl⟩
  all_goals exact exists_noOperand h _

/-- MODE is at the bottom of IMM, which is at the bottom of the word (R110, R115). -/
theorem immField_extractLsb'_mode (w : Word) : (immField w).extractLsb' 0 2 = w.extractLsb' 0 2 := by
  apply BitVec.eq_of_getLsbD_eq
  intro i hi
  simp [immField, hi]

/-- An `SR_CONFIGURE` word with MODE = 3 is no command (R122). -/
theorem decode_ne_instr_of_reservedMode {w : Word} (hrow : w &&& 0xFFF8 = 0x3000) (hmode : w.extractLsb' 0 2 = 3)
    (i : Instr) : decode w ≠ .instr i := by
  have hm : (rowOf (.srConfigure .off .timerOvf)).matchesWord w = true := by
    simpa [rowOf_srConfigure, OpcodeRow.matchesWord] using hrow
  obtain ⟨hc, ho, -⟩ := rowOf_matchesWord.mp hm
  have hd : decode w = configureOperand (immField w) := by
    rw [decode, hc, ho]
    rfl
  rw [hd, configureOperand, if_pos ((immField_extractLsb'_mode w).trans hmode)]
  split <;> nofun

/-- A word that matches a row decodes to a command, but for MODE = 3 (R121). -/
theorem exists_decode_of_matchesWord {r : OpcodeRow} {w : Word} (hr : r ∈ opcodeRows) (hm : r.matchesWord w = true)
    (hmode : ¬ (w &&& 0xFFF8 = 0x3000 ∧ w.extractLsb' 0 2 = 3)) : ∃ i, decode w = .instr i := by
  obtain ⟨i, rfl⟩ := exists_rowOf_eq hr
  obtain ⟨hc, ho, himm⟩ := rowOf_matchesWord.mp hm
  rw [← wordOf_fields w, hc, ho]
  refine exists_decode_of_row i himm fun hi hm3 => hmode ⟨?row, (immField_extractLsb'_mode w).symm.trans hm3⟩
  case row => simpa [hi, OpcodeRow.matchesWord] using hm

/-- Settles O3: a command's word matches the row in its place, and a row's words decode. -/
theorem validWordsAreTheTableRows : Obligations.ValidWordsAreTheTableRows := by
  intro w
  have hrows : ∀ i, decode w = .instr i →
      ∀ n (h : n < opcodeRows.length), opcodeRows[n].matchesWord w = true ↔ n = rowIndex i := by
    intro i hi n h
    obtain ⟨-, rfl⟩ := encodeOfDecodeIsIdentity w i hi
    exact matchesWord_encode_iff i h
  refine ⟨⟨?valid, ?row⟩, hrows⟩
  case valid =>
    rintro ⟨i, hi⟩
    obtain ⟨hlt, -⟩ := List.getElem?_eq_some_iff.mp (opcodeRows_getElem?_rowIndex i)
    refine ⟨List.any_eq_true.mpr ⟨_, List.getElem_mem hlt, (hrows i hi _ hlt).mpr rfl⟩, ?_⟩
    rintro ⟨hrow, hmode⟩
    exact decode_ne_instr_of_reservedMode hrow hmode i hi
  case row =>
    rintro ⟨hany, hmode⟩
    obtain ⟨r, hr, hm⟩ := List.any_eq_true.mp hany
    exact exists_decode_of_matchesWord hr hm hmode

/-- Settles O4: each word decodes by computation. -/
theorem wordsOfTheSpecDecode : Obligations.WordsOfTheSpecDecode := by
  unfold Obligations.WordsOfTheSpecDecode
  decide

end Sys2Proof.Proofs
end

section
/-! PROOFS. A placed word is what the next step runs (30_encoding.md R110, R111; log 11). -/

namespace Sys2Proof.Proofs

open Sys2Proof.Machine Sys2Proof.Laws Sys2Proof.Claims

/-- Putting `MAIN` in place and clearing `FAULTS` and `REFUSED` changes nothing else (log 11). -/
theorem onlyChanges_cleared (s : State) (pc : MainPc) :
    OnlyChanges [.mainPc, .faults, .refused] s { s with mainPc := pc, faults := [], refused := false } := by
  intro p hp
  cases p
  case mainPc | faults | refused => exact absurd hp (by simp)
  all_goals rfl

theorem step_of_fetchNext_run {s u : State} {i : Instr} (h : fetchNext s = .run i u) : step s = exec i u := by
  rw [step, h]

theorem fetchNext_scheduleFirst (s : State) (a : Agent) :
    fetchNext (scheduleFirst s a) = agentFetch a { s with faults := [], refused := false } := rfl

theorem fetchNext_handToMain (s : State) (q : Issuer) (w : Word) :
    fetchNext (handToMain s q w) = acceptWord ⟨q, w⟩ { s with mainPc := .ready, faults := [], refused := false } := rfl

/-- A placed word that decodes to a command is fetched next, whoever its issuer is (R111, log 11). -/
theorem fetchNext_placeWord {s : State} {w : Word} {i : Instr} (h : decode w = .instr i) :
    ∃ pc, fetchNext (placeWord s w) = .run i { s with mainPc := pc, faults := [], refused := false } := by
  unfold placeWord
  simp only [h]
  split_ifs with ht he ha
  · subst ht
    exact ⟨s.mainPc, rfl⟩
  · refine ⟨s.mainPc, ?_⟩
    rw [fetchNext_scheduleFirst, agentFetch, envFetch, h]
    exact if_pos ⟨he, ht⟩
  · refine ⟨.ready, ?_⟩
    rw [fetchNext_handToMain, acceptWord, h]
    exact if_pos ha
  · refine ⟨.ready, ?_⟩
    rw [fetchNext_handToMain, acceptWord, h]
    exact (if_neg ha).trans (if_neg he)

/-- Settles O6: a word of 16 bits is placed as it is. -/
theorem placedWordIsRunNext : Obligations.PlacedWordIsRunNext := by
  intro s w i h
  have hword : BitVec.ofNat 16 w.toNat = w := by simp
  constructor
  · rw [decodeTableWord, if_pos le_rfl, Nat.mod_eq_of_lt w.isLt, hword, h]
  · obtain ⟨pc, hf⟩ := fetchNext_placeWord (s := s) h
    rw [State.withFetchWord, if_neg (lt_irrefl 16), hword]
    exact ⟨_, step_of_fetchNext_run hf, onlyChanges_cleared s pc⟩

end Sys2Proof.Proofs
end

section
/-! PROOFS. Bursts of the shift register: the transmitted half-frames and the received byte (30_encoding.md R126 to
R130, 44_transport.md R236). -/

namespace Sys2Proof.Proofs

open Sys2Proof.Machine Sys2Proof.Laws Sys2Proof.Claims

/-! ### One tick -/

/-- The timer clocks the shift register, so that a tick shifts and counts (R236). -/
def Clocked (s : State) : Prop := s.shift.mode ≠ .off ∧ s.shift.clk = .timerOvf

@[simp] theorem shiftTick_mode (s : State) : (shiftTick s).shift.mode = s.shift.mode := by
  unfold shiftTick; split <;> rfl

@[simp] theorem shiftTick_clk (s : State) : (shiftTick s).shift.clk = s.shift.clk := by
  unfold shiftTick; split <;> rfl

theorem shiftTick_shift {s : State} (h : Clocked s) :
    (shiftTick s).shift = { s.shift with
      sr := (s.shift.sr <<< 1) ||| BitVec.zeroExtend 8 (BitVec.ofBool s.line)
      cnt := if s.shift.cnt = 15 then 0 else s.shift.cnt + 1
      ovfFlag := if s.shift.cnt = 15 then true else s.shift.ovfFlag } :=
  congrArg State.shift (if_pos h)

/-- The counter counts modulo 16. -/
theorem shiftTick_cnt_toNat {s : State} (h : Clocked s) :
    (shiftTick s).shift.cnt.toNat = (s.shift.cnt.toNat + 1) % 16 := by
  have hcount : ∀ c : Nibble, (if c = 15 then 0 else c + 1).toNat = (c.toNat + 1) % 16 := by decide
  rw [shiftTick_shift h]
  exact hcount s.shift.cnt

/-- The counter's wrap latches the flag. -/
theorem shiftTick_ovfFlag {s : State} (h : Clocked s) :
    (shiftTick s).shift.ovfFlag = (s.shift.ovfFlag || decide (s.shift.cnt.toNat = 15)) := by
  have hwrap : ∀ (c : Nibble) (f : Bool), (if c = 15 then true else f) = (f || decide (c.toNat = 15)) := by decide
  rw [shiftTick_shift h]
  exact hwrap s.shift.cnt s.shift.ovfFlag

/-- The line's level goes into bit 0, and every other bit moves up. -/
theorem shiftTick_getLsbD {s : State} (h : Clocked s) {i : Nat} (hi : i < 8) :
    (shiftTick s).shift.sr.getLsbD i = if i = 0 then s.line else s.shift.sr.getLsbD (i - 1) := by
  rw [shiftTick_shift h]
  cases i with
  | zero => simp
  | succ j => simp [hi, BitVec.getLsbD_eq_getElem (Nat.lt_of_succ_lt hi)]

/-! ### A burst -/

/-- `t` is `s` after `n` ticks, whatever levels they took in: the counter has counted them, a wrap of it has set the flag,
and the bits have moved up by `n` places (R236). -/
structure Ticked (n : Nat) (s t : State) : Prop where
  mode : t.shift.mode = s.shift.mode
  clk : t.shift.clk = s.shift.clk
  cnt : t.shift.cnt.toNat = (s.shift.cnt.toNat + n) % 16
  ovfFlag : t.shift.ovfFlag = (s.shift.ovfFlag || decide (16 ≤ s.shift.cnt.toNat + n))
  shifted : ∀ i, n ≤ i → i < 8 → t.shift.sr.getLsbD i = s.shift.sr.getLsbD (i - n)

theorem ticked_zero (s : State) : Ticked 0 s s where
  mode := rfl
  clk := rfl
  cnt := (Nat.mod_eq_of_lt s.shift.cnt.isLt).symm
  ovfFlag := by
    have hc : ¬ 16 ≤ s.shift.cnt.toNat + 0 := Nat.not_le_of_lt s.shift.cnt.isLt
    rw [decide_eq_false hc, Bool.or_false]
  shifted := fun _ _ _ => rfl

theorem Ticked.clocked {n : Nat} {s t : State} (h : Ticked n s t) (hs : Clocked s) : Clocked t := by
  rwa [Clocked, h.mode, h.clk]

/-- One more tick, after the far end has set its level or not. -/
theorem Ticked.succ {n : Nat} {s t u : State} (h : Ticked n s t) (hs : Clocked s) (hu : u.shift = t.shift) :
    Ticked (n + 1) s (shiftTick u) := by
  have hc : Clocked u := by
    rw [Clocked, hu]
    exact h.clocked hs
  constructor
  case mode => rw [shiftTick_mode, hu, h.mode]
  case clk => rw [shiftTick_clk, hu, h.clk]
  case cnt => rw [shiftTick_cnt_toNat hc, hu, h.cnt, Nat.mod_add_mod, Nat.add_assoc]
  case ovfFlag =>
    have hlt := s.shift.cnt.isLt
    have hwrap : 16 ≤ s.shift.cnt.toNat + (n + 1) ↔
        16 ≤ s.shift.cnt.toNat + n ∨ (s.shift.cnt.toNat + n) % 16 = 15 := by omega
    rw [shiftTick_ovfFlag hc, hu, h.ovfFlag, h.cnt, decide_eq_decide.mpr hwrap, Bool.decide_or, Bool.or_assoc]
  case shifted =>
    intro i hn hi
    have h0 : i ≠ 0 := by omega
    have hsub : i - 1 - n = i - (n + 1) := by omega
    rw [shiftTick_getLsbD hc hi, if_neg h0, hu, h.shifted (i - 1) (by omega) (by omega), hsub]

/-- A burst in which the line is the register's own (R127). -/
theorem ticked_iterate {s : State} (hs : Clocked s) (n : Nat) : Ticked n s (shiftTick^[n] s) := by
  induction n with
  | zero => exact ticked_zero s
  | succ n ih =>
    rw [Function.iterate_succ_apply']
    exact ih.succ hs rfl

/-- A burst in which the far end presents the levels (R129). -/
theorem ticked_foldl_sampleTick {s : State} (hs : Clocked s) (ls : List Level) :
    Ticked ls.length s (ls.foldl sampleTick s) := by
  induction ls using List.reverseRecOn with
  | nil => exact ticked_zero s
  | append_singleton ls l ih =>
    rw [List.foldl_append, List.length_append]
    exact ih.succ hs rfl

/-! ### Transmission -/

/-- In OUTPUT mode the line shows, tick by tick, the register's bits from bit 7 down (R52, R126). -/
theorem line_iterate_shiftTick {s : State} (hm : s.shift.mode = .output) (hk : s.shift.clk = .timerOvf) {n : Nat}
    (hn : n ≤ 7) : (shiftTick^[n] s).line = s.shift.sr.getLsbD (7 - n) := by
  have h := ticked_iterate (s := s) ⟨by simp [hm], hk⟩ n
  rw [State.line, if_pos (h.mode.trans hm), h.shifted 7 hn (by decide)]

/-- The first half-frame: the idle lead, the start bit, and the byte's bits 0 to 3 (R126). -/
theorem halfFrame1_bits (b : Byte) :
    ((List.range 6).map fun k => (halfFrame1 (reverseBits b)).getLsbD (7 - k)) =
      [true, false, b.getLsbD 0, b.getLsbD 1, b.getLsbD 2, b.getLsbD 3] := by
  revert b; decide

/-- The second half-frame: the byte's bits 3 to 7 and the stop bit (R127). -/
theorem halfFrame2_bits (b : Byte) :
    ((List.range 6).map fun k => (halfFrame2 (reverseBits b)).getLsbD (7 - k)) =
      [b.getLsbD 3, b.getLsbD 4, b.getLsbD 5, b.getLsbD 6, b.getLsbD 7, true] := by
  revert b; decide

/-- Settles O57: the line shows the register's bits from bit 7 down, and the counter wraps with the 5th tick. -/
theorem halfFramesShowTheFrameBits : Obligations.HalfFramesShowTheFrameBits := by
  intro s b hm hk hc hf
  have hlines : ((List.range 6).map fun k => (shiftTick^[k] s).line) =
      (List.range 6).map fun k => s.shift.sr.getLsbD (7 - k) :=
    List.map_congr_left fun k hk6 =>
      line_iterate_shiftTick hm hk (by rw [List.mem_range] at hk6; omega)
  have hovf : ∀ k, (shiftTick^[k] s).shift.ovfFlag = decide (16 ≤ seedTx.toNat + k) := by
    intro k
    rw [(ticked_iterate ⟨by simp [hm], hk⟩ k).ovfFlag, hc, hf, Bool.false_or]
  refine ⟨?first, ?second, ?before, hovf 5⟩
  case first =>
    intro hsr
    rw [hlines, hsr, halfFrame1_bits]
  case second =>
    intro hsr
    rw [hlines, hsr, halfFrame2_bits]
  case before =>
    intro k hk5
    have hlt : ¬ 16 ≤ 11 + k := by omega
    rw [hovf k]
    exact decide_eq_false hlt

/-! ### Reception -/

/-- In INPUT mode the register holds the levels last sampled, the last one in bit 0 (R236). -/
theorem foldl_sampleTick_getLsbD {s : State} (hm : s.shift.mode = .input) (hk : s.shift.clk = .timerOvf)
    (ls : List Level) : ∀ {i : Nat} {l : Level}, i < 8 → ls.reverse[i]? = some l →
      (ls.foldl sampleTick s).shift.sr.getLsbD i = l := by
  induction ls using List.reverseRecOn with
  | nil => simp
  | append_singleton ls l ih =>
    intro i l' hi hl
    have h := ticked_foldl_sampleTick (s := s) ⟨by simp [hm], hk⟩ ls
    have hmode : (ls.foldl sampleTick s).shift.mode ≠ .output := by simp [h.mode, hm]
    have hc : Clocked { ls.foldl sampleTick s with extLevel := l } := h.clocked ⟨by simp [hm], hk⟩
    rw [List.reverse_append, List.reverse_singleton, List.singleton_append] at hl
    rw [List.foldl_append, List.foldl_cons, List.foldl_nil, sampleTick, shiftTick_getLsbD hc hi]
    cases i with
    | zero => simpa [State.line, hmode] using hl
    | succ j => simpa using ih (Nat.lt_of_succ_lt hi) hl

/-- From the last data bit back to the first, the frame holds the byte's bits 7 to 0, in the order in which
the reversed byte does (R124, R190). -/
theorem wireFrame_take_reverse_getElem? (b : Byte) (i : Fin 8) :
    ((wireFrame b).take 9).reverse[i.val]? = some ((reverseBits b).getLsbD i) := by
  rw [reverseBits_getLsbD]
  fin_cases i <;> rfl

/-- Settles O58: nine ticks take the counter from 7 to its wrap, and leave the eight data bits in the register. -/
theorem receiveBurstCapturesTheReversedByte : Obligations.ReceiveBurstCapturesTheReversedByte := by
  intro s b hm hk hc hf
  have hovf : ∀ k, k ≤ 10 →
      (((wireFrame b).take k).foldl sampleTick s).shift.ovfFlag = decide (16 ≤ seedRx.toNat + k) := by
    intro k hk10
    have hlen : ((wireFrame b).take k).length = k := List.length_take_of_le hk10
    rw [(ticked_foldl_sampleTick ⟨by simp [hm], hk⟩ _).ovfFlag, hlen, hc, hf, Bool.false_or]
  refine ⟨?before, hovf 9 (by decide), ?byte⟩
  case before =>
    intro k hk8
    have hlt : ¬ 16 ≤ 7 + k := by omega
    rw [hovf k (by omega)]
    exact decide_eq_false hlt
  case byte =>
    apply BitVec.eq_of_getLsbD_eq
    intro i hi
    exact foldl_sampleTick_getLsbD hm hk _ hi (wireFrame_take_reverse_getElem? b ⟨i, hi⟩)

end Sys2Proof.Proofs
end

section
/-! PROOFS. The ring-buffer commands: what each writes and leaves alone (41_ring_buffers.md R160, R163, R166, R169). -/

namespace Sys2Proof.Proofs

open Sys2Proof.Machine Sys2Proof.Laws Sys2Proof.Claims

/-! ### Frames of a command -/

@[simp] theorem deliver_ring (s : State) (v : Ret) (r : RingSel) : (s.deliver v).ring r = s.ring r := by cases r <;> rfl

@[simp] theorem deliver_slot (s : State) (v : Ret) (r : RingSel) (i : Byte) : (s.deliver v).slot r i = s.slot r i :=
  slot_congr (by rw [deliver_ring]) rfl i

@[simp] theorem deliver_collides (s : State) (v : Ret) : (s.deliver v).collides = s.collides := rfl

theorem onlyChanges_refl (parts : List Part) (s : State) : OnlyChanges parts s s := by
  intro p _
  cases p <;> rfl

/-- A delivered result writes `RET` alone (D32). -/
theorem onlyChanges_deliver {parts : List Part} {s u : State} (h : OnlyChanges parts s u) (v : Ret) :
    OnlyChanges (.ret :: parts) s (u.deliver v) := by
  intro p hnot
  obtain ⟨hret, hp⟩ := List.ne_and_not_mem_of_not_mem_cons hnot
  have hu := h p hp
  cases p
  case ret => exact absurd rfl hret
  case slot r i => exact (deliver_slot u v r i).trans hu
  case head r | tail r => rw [Unchanged, deliver_ring]; exact hu
  all_goals exact hu

/-- `settle` writes the edge detector's flag and level alone (R205). -/
theorem onlyChanges_settleEdge {parts : List Part} {s u : State} (h : OnlyChanges parts s u) :
    OnlyChanges (.edgeFlag :: .lastLevel :: parts) s u.settleEdge := by
  intro p hnot
  obtain ⟨hflag, hnot'⟩ := List.ne_and_not_mem_of_not_mem_cons hnot
  obtain ⟨hlevel, hp⟩ := List.ne_and_not_mem_of_not_mem_cons hnot'
  have hu := h p hp
  cases p
  case edgeFlag => exact absurd rfl hflag
  case lastLevel => exact absurd rfl hlevel
  case slot r i => exact (settleEdge_slot u r i).trans hu
  case head r | tail r => rw [Unchanged, settleEdge_ring]; exact hu
  all_goals exact hu

/-- A ring put back changes its own indices and slots alone, and of these what differs. -/
theorem onlyChanges_setRing {parts : List Part} {s : State} {r : RingSel} {b : RingBuffer}
    (hhead : .head r ∉ parts → b.head = (s.ring r).head) (htail : .tail r ∉ parts → b.tail = (s.ring r).tail)
    (hslot : ∀ i, .slot r i ∉ parts → (s.setRing r b).slot r i = s.slot r i) :
    OnlyChanges parts s (s.setRing r b) := by
  have hother : ∀ q, q ≠ r → (s.setRing r b).ring q = s.ring q := fun q hq => ring_setRing_other s b hq
  intro p hp
  cases p
  case head q =>
    by_cases hq : q = r
    · subst hq; simpa [Unchanged] using hhead hp
    · simp [Unchanged, hother q hq]
  case tail q =>
    by_cases hq : q = r
    · subst hq; simpa [Unchanged] using htail hp
    · simp [Unchanged, hother q hq]
  case slot q i =>
    by_cases hq : q = r
    · subst hq; exact hslot i hp
    · exact slot_congr (by rw [hother q hq]) (setRing_draws s r b) i
  all_goals simp [Unchanged]

/-- A command whose body answers a state that does not collide completes in that state, settled. -/
theorem exec_of_finish_ok {i : Instr} {s u : State} (hx : exec i s = finish s (.ok u)) (hc : u.collides = false) :
    exec i s = .next u.settleEdge := by
  rw [hx, finish_ok, settle_of_not_collides hc]

/-- A command completes when its body does, without a collision and with the edge detector left to `settle`. -/
theorem completes_of_finish_ok {i : Instr} {s u : State} {parts : List Part} {post : State → Prop}
    (hx : exec i s = finish s (.ok u)) (hc : u.collides = false) (hedge : u.edge = s.edge)
    (hpost : post u.settleEdge) (hframe : OnlyChanges parts s u) : Completes i s parts post := by
  refine ⟨u.settleEdge, exec_of_finish_ok hx hc, hpost, onlyChanges_settleEdge hframe, ?_, rfl⟩
  rw [settleEdge_line, settleEdge_edge, hedge]

/-- A fault raised in a step's body changes `FAULTS` alone (R341). -/
theorem faultsOnly_of_finish_error {o : Outcome} {s : State} {c : FaultCode} (hx : o = finish s (.error c)) :
    FaultsOnly o s c := by
  refine ⟨s.recordFault c, hx.trans (finish_error s c), fun d => mem_insertCode, ?_⟩
  intro p hp
  cases p
  case faults => exact absurd hp (by simp)
  all_goals rfl

/-! ### The ring primitives -/

theorem isEmpty_iff {s : State} {r : RingSel} : s.isEmpty r = true ↔ (s.ring r).head = (s.ring r).tail := beq_iff_eq

theorem isFull_iff {s : State} {r : RingSel} :
    s.isFull r = true ↔ s.nextIndex r (s.ring r).head = (s.ring r).tail := beq_iff_eq

/-- The state after a push that finds room (R160). -/
def pushed (r : RingSel) (v : Byte) (s : State) : State :=
  s.setRing r
    { head := s.nextIndex r (s.ring r).head, tail := (s.ring r).tail
      buf := Memory.write (s.ring r).buf (s.nextIndex r (s.ring r).head).toNat v }

/-- The state after a pop that finds a byte (R163). -/
def popped (r : RingSel) (s : State) : State :=
  s.setRing r { head := (s.ring r).head, tail := s.nextIndex r (s.ring r).tail, buf := (s.ring r).buf }

@[simp] theorem pushed_cfg (r : RingSel) (v : Byte) (s : State) : (pushed r v s).cfg = s.cfg := setRing_cfg s r _
@[simp] theorem pushed_edge (r : RingSel) (v : Byte) (s : State) : (pushed r v s).edge = s.edge := setRing_edge s r _
@[simp] theorem pushed_collides (r : RingSel) (v : Byte) (s : State) : (pushed r v s).collides = s.collides :=
  setRing_collides s r _
@[simp] theorem pushed_head (r : RingSel) (v : Byte) (s : State) :
    ((pushed r v s).ring r).head = s.nextIndex r (s.ring r).head := by simp [pushed]
@[simp] theorem pushed_tail (r : RingSel) (v : Byte) (s : State) :
    ((pushed r v s).ring r).tail = (s.ring r).tail := by simp [pushed]

@[simp] theorem popped_cfg (r : RingSel) (s : State) : (popped r s).cfg = s.cfg := setRing_cfg s r _
@[simp] theorem popped_edge (r : RingSel) (s : State) : (popped r s).edge = s.edge := setRing_edge s r _
@[simp] theorem popped_collides (r : RingSel) (s : State) : (popped r s).collides = s.collides :=
  setRing_collides s r _
@[simp] theorem popped_head (r : RingSel) (s : State) : ((popped r s).ring r).head = (s.ring r).head := by
  simp [popped]
@[simp] theorem popped_tail (r : RingSel) (s : State) :
    ((popped r s).ring r).tail = s.nextIndex r (s.ring r).tail := by simp [popped]

/-- A push writes its byte in the next slot, and leaves the ring's other slots alone (R160). -/
theorem slot_pushed (r : RingSel) (v : Byte) (s : State) (i : Byte) :
    (pushed r v s).slot r i = if i = s.nextIndex r (s.ring r).head then v else s.slot r i := by
  rw [State.slot, pushed, ring_setRing_same, setRing_draws, read_write]
  simp only [BitVec.toNat_inj]
  split <;> rfl

theorem pushBody_of_full {r : RingSel} {s : State} (v : Byte) (h : s.isFull r = true) :
    pushBody r v s = .ok (s.deliver (.bool false)) := by
  simp [pushBody, rbPush, h]

theorem pushBody_of_room {r : RingSel} {s : State} (hv : s.cfg.valid = true) (v : Byte) (h : s.isFull r = false) :
    pushBody r v s = .ok ((pushed r v s).deliver (.bool true)) := by
  rcases rbPush_cases hv r v with ⟨hfull, -⟩ | ⟨-, hp⟩
  · rw [h] at hfull; cases hfull
  · rw [pushBody, hp]; rfl

theorem popBody_of_empty {r : RingSel} {s : State} (h : s.isEmpty r = true) : popBody r s = .error .popEmpty := by
  simp [popBody, rbPop, h]

theorem popBody_of_held {r : RingSel} {s : State} (hv : s.cfg.valid = true) (h : s.isEmpty r = false) :
    popBody r s = .ok ((popped r s).deliver (.byte (s.slot r (s.nextIndex r (s.ring r).tail)))) := by
  rcases rbPop_cases hv r with ⟨hempty, -⟩ | ⟨-, hp⟩
  · rw [h] at hempty; cases hempty
  · rw [popBody, hp]; rfl

/-! ### The commands of either ring -/

theorem decode_pushWord (r : RingSel) (v : Byte) :
    decode (byteWord (0x10 + selectBit r) v) = .instr (pushCommand r v) := by
  cases r
  · exact decode_wordOf 0x1 0x0 v
  · exact decode_wordOf 0x1 0x1 v

theorem decode_popWord (r : RingSel) : decode (byteWord (0x12 + selectBit r) 0) = .instr (popCommand r) := by
  cases r <;> rfl

theorem decode_isEmptyWord (r : RingSel) : decode (byteWord (0x14 + selectBit r) 0) = .instr (isEmptyCommand r) := by
  cases r <;> rfl

theorem decode_flushWord (r : RingSel) : decode (byteWord (0x16 + selectBit r) 0) = .instr (flushCommand r) := by
  cases r <;> rfl

theorem exec_pushCommand (r : RingSel) (v : Byte) (s : State) :
    exec (pushCommand r v) s = finish s (pushBody r v s) := by
  cases r <;> rfl

theorem exec_popCommand (r : RingSel) (s : State) : exec (popCommand r) s = finish s (popBody r s) := by
  cases r <;> rfl

theorem exec_isEmptyCommand (r : RingSel) (s : State) :
    exec (isEmptyCommand r) s = finish s (.ok (s.deliver (.bool (s.isEmpty r)))) := by
  cases r <;> rfl

theorem exec_flushCommand (r : RingSel) (s : State) : exec (flushCommand r) s = finish s (.ok (rbFlush r s)) := by
  cases r <;> rfl

/-- The push of a full ring, up to `settle` (R160). -/
theorem exec_pushCommand_of_full {r : RingSel} {s : State} (v : Byte) (h : s.isFull r = true) :
    exec (pushCommand r v) s = finish s (.ok (s.deliver (.bool false))) := by
  rw [exec_pushCommand, pushBody_of_full v h]

/-- The push of a ring with room, up to `settle` (R160). -/
theorem exec_pushCommand_of_room {r : RingSel} {s : State} (hv : s.cfg.valid = true) (v : Byte)
    (h : s.isFull r = false) :
    exec (pushCommand r v) s = finish s (.ok ((pushed r v s).deliver (.bool true))) := by
  rw [exec_pushCommand, pushBody_of_room hv v h]

/-- The pop of a ring that holds a byte, up to `settle` (R163). -/
theorem exec_popCommand_of_held {r : RingSel} {s : State} (hv : s.cfg.valid = true) (h : s.isEmpty r = false) :
    exec (popCommand r) s =
      finish s (.ok ((popped r s).deliver (.byte (s.slot r (s.nextIndex r (s.ring r).tail))))) := by
  rw [exec_popCommand, popBody_of_held hv h]

theorem onlyChanges_pushed (r : RingSel) (v : Byte) (s : State) :
    OnlyChanges [.head r, .slot r (s.nextIndex r (s.ring r).head)] s (pushed r v s) := by
  refine onlyChanges_setRing (fun h => absurd h (by simp)) (fun _ => rfl) fun i hi => ?_
  have hne : i ≠ s.nextIndex r (s.ring r).head := by
    rintro rfl
    simp at hi
  exact (slot_pushed r v s i).trans (if_neg hne)

theorem onlyChanges_popped (r : RingSel) (s : State) : OnlyChanges [.tail r] s (popped r s) :=
  onlyChanges_setRing (fun _ => rfl) (fun h => absurd h (by simp))
    fun i _ => slot_congr (by rw [ring_setRing_same]) (setRing_draws s r _) i

theorem onlyChanges_rbFlush (r : RingSel) (s : State) : OnlyChanges [.head r, .tail r] s (rbFlush r s) :=
  onlyChanges_setRing (fun h => absurd h (by simp)) (fun h => absurd h (by simp))
    fun i _ => slot_congr (by rw [ring_setRing_same]) (setRing_draws s r _) i

/-- Settles O15: a full ring delivers false and is left as it is, a ring with room takes the byte in its next slot. -/
theorem pushWritesTheNextSlotOrFails : Obligations.PushWritesTheNextSlotOrFails := by
  intro r v
  refine ⟨decode_pushWord r v, fun s hv hc => ⟨fun hfull => ?full, fun hroom => ?room⟩⟩
  case full =>
    exact completes_of_finish_ok (exec_pushCommand_of_full v (isFull_iff.mpr hfull)) hc rfl rfl
      (onlyChanges_deliver (onlyChanges_refl [] s) _)
  case room =>
    have hr : s.isFull r = false := Bool.eq_false_iff.mpr (mt isFull_iff.mp hroom)
    refine completes_of_finish_ok (exec_pushCommand_of_room hv v hr) ?_ ?_ ⟨rfl, ?_, ?_⟩
      (onlyChanges_deliver (onlyChanges_pushed r v s) _)
    · simpa using hc
    · simp
    · simp [State.nextIndex]
    · rw [settleEdge_slot, deliver_slot, slot_pushed]
      exact if_pos rfl

/-- Settles O16: the pop of an empty ring raises its fault, any other moves the tail and delivers the byte there. -/
theorem popReturnsTheOldestSlotOrFaults : Obligations.PopReturnsTheOldestSlotOrFaults := by
  intro r
  refine ⟨decode_popWord r, fun s hv => ⟨fun hempty => ?empty, fun hheld hc => ?held⟩⟩
  case empty =>
    have hb := popBody_of_empty (isEmpty_iff.mpr hempty)
    exact faultsOnly_of_finish_error (by rw [exec_popCommand, hb])
  case held =>
    have he : s.isEmpty r = false := Bool.eq_false_iff.mpr (mt isEmpty_iff.mp hheld)
    refine completes_of_finish_ok (exec_popCommand_of_held hv he) ?_ ?_ ⟨rfl, ?_⟩
      (onlyChanges_deliver (onlyChanges_popped r s) _)
    · simpa using hc
    · simp
    · simp [State.nextIndex]

/-- Settles O17: the test only delivers its result, the flush only puts the ring back with both indices 0. -/
theorem emptinessTestAndFlush : Obligations.EmptinessTestAndFlush := by
  intro r
  refine ⟨decode_isEmptyWord r, decode_flushWord r, fun s hc => ⟨?test, ?flush⟩⟩
  case test =>
    exact completes_of_finish_ok (exec_isEmptyCommand r s) hc rfl rfl
      (onlyChanges_deliver (onlyChanges_refl [] s) _)
  case flush =>
    refine completes_of_finish_ok (exec_flushCommand r s) ?_ ?_ ⟨?_, ?_⟩ (onlyChanges_rbFlush r s)
    · simpa [rbFlush] using hc
    all_goals simp [rbFlush]

end Sys2Proof.Proofs
end

section
/-! PROOFS. Each ring is a bounded FIFO queue (41_ring_buffers.md R170, R171): index arithmetic is arithmetic modulo `N`. -/

namespace Sys2Proof.Proofs

open Sys2Proof.Machine Sys2Proof.Laws Sys2Proof.Safety Sys2Proof.Claims

/-! ### Index arithmetic -/

/-- A legal capacity divides 256, so a byte that wraps keeps its residue (R8, R41). -/
theorem capacity_dvd {c : Config} (hv : c.valid = true) (r : RingSel) : c.capacity r ∣ 2 ^ 8 := by
  obtain ⟨k, -, hk, hcap⟩ := mem_legalCapacities_iff.mp (capacity_cases hv r)
  exact hcap ▸ Nat.pow_dvd_pow 2 hk

/-- Masking is the residue modulo the capacity, a power of two (R9, R160). -/
theorem masked_toNat {c : Config} (hv : c.valid = true) (r : RingSel) (i : Byte) :
    (i &&& c.mask r).toNat = i.toNat % c.capacity r := by
  obtain ⟨k, -, -, hcap⟩ := mem_legalCapacities_iff.mp (capacity_cases hv r)
  rw [BitVec.toNat_and, mask_toNat hv, hcap, Nat.and_two_pow_sub_one_eq_mod]

theorem nextIndex_toNat {s : State} (hv : s.cfg.valid = true) (r : RingSel) (i : Byte) :
    (s.nextIndex r i).toNat = (i.toNat + 1) % s.cfg.capacity r := by
  rw [State.nextIndex, masked_toNat hv, BitVec.toNat_add, Nat.mod_mod_of_dvd _ (capacity_dvd hv r)]
  rfl

/-- The slot of the `k`-th byte held, counting from the oldest (R41). -/
def heldIndex (s : State) (r : RingSel) (k : Nat) : Byte :=
  ((s.ring r).tail + 1 + BitVec.ofNat 8 k) &&& s.cfg.mask r

theorem ringContents_eq (s : State) (r : RingSel) :
    s.ringContents r = (List.range (s.occupancy r)).map fun k => s.slot r (heldIndex s r k) := rfl

theorem heldIndex_toNat {s : State} (hv : s.cfg.valid = true) (r : RingSel) (k : Nat) :
    (heldIndex s r k).toNat = ((s.ring r).tail.toNat + 1 + k) % s.cfg.capacity r := by
  rw [heldIndex, masked_toNat hv, BitVec.toNat_add, BitVec.toNat_add, BitVec.toNat_ofNat,
    Nat.mod_mod_of_dvd _ (capacity_dvd hv r)]
  have h256 : ((s.ring r).tail.toNat + 1) % 2 ^ 8 + k % 2 ^ 8 ≡ (s.ring r).tail.toNat + 1 + k [MOD 2 ^ 8] :=
    (Nat.mod_modEq _ _).add (Nat.mod_modEq _ _)
  exact h256.of_dvd (capacity_dvd hv r)

/-! ### Occupancy -/

theorem occupancy_lt {s : State} (hv : s.cfg.valid = true) (r : RingSel) : s.occupancy r < s.cfg.capacity r :=
  masked_lt_capacity hv r _

/-- The head is as many places past the tail as bytes are held (R41). -/
theorem tail_add_occupancy {s : State} (hv : s.cfg.valid = true) (r : RingSel) :
    (s.ring r).tail.toNat + s.occupancy r ≡ (s.ring r).head.toNat [MOD s.cfg.capacity r] := by
  have hocc : s.occupancy r ≡ 2 ^ 8 - (s.ring r).tail.toNat + (s.ring r).head.toNat [MOD s.cfg.capacity r] := by
    rw [State.occupancy, masked_toNat hv, BitVec.toNat_sub, Nat.mod_mod_of_dvd _ (capacity_dvd hv r)]
    exact Nat.mod_modEq _ _
  have hlt := (s.ring r).tail.isLt
  have hsum : (s.ring r).tail.toNat + (2 ^ 8 - (s.ring r).tail.toNat + (s.ring r).head.toNat) =
      2 ^ 8 + (s.ring r).head.toNat := by omega
  have hwrap : 2 ^ 8 ≡ 0 [MOD s.cfg.capacity r] := Nat.modEq_zero_iff_dvd.mpr (capacity_dvd hv r)
  calc (s.ring r).tail.toNat + s.occupancy r
      ≡ (s.ring r).tail.toNat + (2 ^ 8 - (s.ring r).tail.toNat + (s.ring r).head.toNat) [MOD s.cfg.capacity r] :=
        hocc.add_left _
    _ = 2 ^ 8 + (s.ring r).head.toNat := hsum
    _ ≡ 0 + (s.ring r).head.toNat [MOD s.cfg.capacity r] := hwrap.add_right _
    _ = (s.ring r).head.toNat := Nat.zero_add _

/-- The occupancy is the one number below the capacity with that property. -/
theorem occupancy_eq {s : State} (hv : s.cfg.valid = true) {r : RingSel} {n : Nat} (hn : n < s.cfg.capacity r)
    (h : (s.ring r).tail.toNat + n ≡ (s.ring r).head.toNat [MOD s.cfg.capacity r]) : s.occupancy r = n :=
  (((tail_add_occupancy hv r).trans h.symm).add_left_cancel' _).eq_of_lt_of_lt (occupancy_lt hv r) hn

theorem occupancy_eq_zero_of_empty {s : State} (hv : s.cfg.valid = true) {r : RingSel} (h : s.isEmpty r = true) :
    s.occupancy r = 0 :=
  occupancy_eq hv (zero_lt_capacity hv r) (by rw [isEmpty_iff.mp h]; rfl)

/-- The slot past the bytes held is the one a push writes (R160). -/
theorem heldIndex_occupancy {s : State} (hv : s.cfg.valid = true) (r : RingSel) :
    heldIndex s r (s.occupancy r) = s.nextIndex r (s.ring r).head := by
  rw [← BitVec.toNat_inj, heldIndex_toNat hv, nextIndex_toNat hv, Nat.add_right_comm]
  exact (tail_add_occupancy hv r).add_right 1

/-- The last of the ring's places is the tail's own slot, which holds no byte (R170). -/
theorem heldIndex_last {s : State} (hs : RingInv s) (r : RingSel) :
    heldIndex s r (s.cfg.capacity r - 1) = (s.ring r).tail := by
  have htail : (s.ring r).tail.toNat < s.cfg.capacity r := (ringFits_ring hs r).tail
  have hsum : (s.ring r).tail.toNat + 1 + (s.cfg.capacity r - 1) = (s.ring r).tail.toNat + s.cfg.capacity r := by omega
  rw [← BitVec.toNat_inj, heldIndex_toNat hs.1, hsum, Nat.add_mod_right, Nat.mod_eq_of_lt htail]

/-- The places of a ring are distinct slots. -/
theorem heldIndex_inj {s : State} (hv : s.cfg.valid = true) {r : RingSel} {j k : Nat} (hj : j < s.cfg.capacity r)
    (hk : k < s.cfg.capacity r) : heldIndex s r j = heldIndex s r k ↔ j = k := by
  refine ⟨fun h => ?_, fun h => h ▸ rfl⟩
  rw [← BitVec.toNat_inj, heldIndex_toNat hv, heldIndex_toNat hv] at h
  exact (Nat.ModEq.add_left_cancel' _ h).eq_of_lt_of_lt hj hk

/-- A ring is full when it holds `N - 1` bytes (R170). -/
theorem isFull_iff_occupancy {s : State} (hs : RingInv s) {r : RingSel} :
    s.isFull r = true ↔ s.occupancy r = s.cfg.capacity r - 1 := by
  have hlt := occupancy_lt hs.1 r
  rw [isFull_iff, ← heldIndex_occupancy hs.1, ← heldIndex_last hs, heldIndex_inj hs.1 hlt (by omega)]

/-! ### The queue after each primitive -/

/-- A ring's queue depends on the ring, the configuration and the draw alone. -/
theorem ringContents_congr {s t : State} {r : RingSel} (hr : t.ring r = s.ring r) (hc : t.cfg = s.cfg)
    (hd : t.draws = s.draws) : t.ringContents r = s.ringContents r := by
  simp [State.ringContents, State.occupancy, State.slot, hr, hc, hd]

@[simp] theorem ringContents_settleEdge (s : State) (r : RingSel) :
    s.settleEdge.ringContents r = s.ringContents r :=
  ringContents_congr (settleEdge_ring s r) rfl rfl

@[simp] theorem ringContents_deliver (s : State) (v : Ret) (r : RingSel) :
    (s.deliver v).ringContents r = s.ringContents r :=
  ringContents_congr (deliver_ring s v r) rfl rfl

theorem otherRing_ne (r : RingSel) : otherRing r ≠ r := by cases r <;> decide

@[simp] theorem ringContents_setRing_other (s : State) (r : RingSel) (b : RingBuffer) :
    (s.setRing r b).ringContents (otherRing r) = s.ringContents (otherRing r) :=
  ringContents_congr (ring_setRing_other s b (otherRing_ne r)) (setRing_cfg s r b) (setRing_draws s r b)

@[simp] theorem length_ringContents (s : State) (r : RingSel) : (s.ringContents r).length = s.occupancy r := by
  simp [ringContents_eq]

/-- A push that finds room appends its byte: the new slot is none of those held (R160, R171). -/
theorem ringContents_pushed {s : State} (hv : s.cfg.valid = true) {r : RingSel} (v : Byte)
    (h : s.occupancy r < s.cfg.capacity r - 1) :
    (pushed r v s).ringContents r = s.ringContents r ++ [v] := by
  have hlt := occupancy_lt hv r
  have hocc : (pushed r v s).occupancy r = s.occupancy r + 1 := by
    refine occupancy_eq (by rwa [pushed_cfg]) (by rw [pushed_cfg]; omega) ?_
    rw [pushed_cfg, pushed_tail, pushed_head, nextIndex_toNat hv]
    exact ((tail_add_occupancy hv r).add_right 1).trans (Nat.mod_modEq _ _).symm
  have hslot : ∀ k < s.cfg.capacity r, (pushed r v s).slot r (heldIndex (pushed r v s) r k) =
      if k = s.occupancy r then v else s.slot r (heldIndex s r k) := by
    intro k hk
    have hindex : heldIndex (pushed r v s) r k = heldIndex s r k := by simp [heldIndex]
    rw [hindex, slot_pushed, ← heldIndex_occupancy hv]
    simp only [heldIndex_inj hv hk hlt]
  rw [ringContents_eq, ringContents_eq, hocc, List.range_succ, List.map_append, List.map_singleton, hslot _ hlt,
    if_pos rfl]
  congr 1
  refine List.map_congr_left fun k hk => ?_
  have hk : k < s.occupancy r := List.mem_range.mp hk
  rw [hslot k (hk.trans hlt), if_neg hk.ne]

/-- A pop removes the byte at the front and moves every other one place forward (R163, R171). -/
theorem ringContents_popped {s : State} (hv : s.cfg.valid = true) {r : RingSel} (h : s.occupancy r ≠ 0) :
    s.ringContents r = s.slot r (s.nextIndex r (s.ring r).tail) :: (popped r s).ringContents r := by
  have hlt := occupancy_lt hv r
  obtain ⟨n, hn⟩ := Nat.exists_eq_succ_of_ne_zero h
  have hocc : (popped r s).occupancy r = n := by
    refine occupancy_eq (by rwa [popped_cfg]) (by rw [popped_cfg]; omega) ?_
    rw [popped_cfg, popped_tail, popped_head, nextIndex_toNat hv]
    have hsum : (s.ring r).tail.toNat + 1 + n = (s.ring r).tail.toNat + s.occupancy r := by omega
    exact ((Nat.mod_modEq _ _).add_right n).trans (hsum ▸ tail_add_occupancy hv r)
  have hfirst : heldIndex s r 0 = s.nextIndex r (s.ring r).tail := by simp [heldIndex, State.nextIndex]
  have hindex : ∀ k, heldIndex (popped r s) r k = heldIndex s r (k + 1) := by
    intro k
    rw [← BitVec.toNat_inj, heldIndex_toNat (by rwa [popped_cfg]), heldIndex_toNat hv, popped_cfg, popped_tail,
      nextIndex_toNat hv, Nat.add_assoc, Nat.mod_add_mod, Nat.add_comm 1 k]
  have hslot : ∀ i, (popped r s).slot r i = s.slot r i := fun i => onlyChanges_popped r s (.slot r i) (by simp)
  rw [ringContents_eq, ringContents_eq, hn, hocc, List.range_succ_eq_map, List.map_cons, hfirst, List.map_map]
  simp only [hslot, hindex]
  rfl

/-- A flush empties the queue (R169). -/
theorem ringContents_rbFlush {s : State} (hv : s.cfg.valid = true) (r : RingSel) :
    (rbFlush r s).ringContents r = [] := by
  have hcfg : (rbFlush r s).cfg = s.cfg := setRing_cfg s r _
  have hempty : (rbFlush r s).isEmpty r = true := isEmpty_iff.mpr (by simp [rbFlush])
  rw [ringContents_eq, occupancy_eq_zero_of_empty (by rwa [hcfg]) hempty]
  rfl

/-- Settles O18: in a queue of the bytes held, a push appends, a pop takes the front, a flush empties; `settle` and the
delivered result reach no ring. -/
theorem ringsRefineBoundedFifoQueues : Obligations.RingsRefineBoundedFifoQueues := by
  intro r s hs hc
  have hv := hs.1
  rw [length_ringContents]
  refine ⟨Nat.le_pred_of_lt (occupancy_lt hv r), fun v => ?push, fun v queue hq => ?pop, ?flush⟩
  case push =>
    cases hfull : s.isFull r
    case true =>
      have hocc := (isFull_iff_occupancy hs).mp hfull
      refine ⟨_, exec_of_finish_ok (exec_pushCommand_of_full v hfull) hc, by simp, fun h => absurd hocc h.ne,
        fun _ => ⟨rfl, by simp⟩⟩
    case false =>
      have hocc : s.occupancy r ≠ s.cfg.capacity r - 1 :=
        fun h => Bool.false_ne_true (hfull.symm.trans ((isFull_iff_occupancy hs).mpr h))
      refine ⟨_, exec_of_finish_ok (exec_pushCommand_of_room hv v hfull) (by simpa using hc), by simp [pushed],
        fun h => ⟨rfl, ?_⟩, fun h => absurd h hocc⟩
      simpa using ringContents_pushed hv v h
  case pop =>
    have hocc : s.occupancy r ≠ 0 := by
      rw [← length_ringContents, hq]
      exact Nat.succ_ne_zero _
    have hheld : s.isEmpty r = false := Bool.eq_false_iff.mpr (mt (occupancy_eq_zero_of_empty hv) hocc)
    obtain ⟨hfirst, hrest⟩ := List.cons.inj ((ringContents_popped hv hocc).symm.trans hq)
    exact ⟨_, exec_of_finish_ok (exec_popCommand_of_held hv hheld) (by simpa using hc), by simp [hfirst],
      by simpa using hrest, by simp [popped]⟩
  case flush =>
    exact ⟨_, exec_of_finish_ok (exec_flushCommand r s) (by simpa [rbFlush] using hc),
      by simpa using ringContents_rbFlush hv r, by simp [rbFlush]⟩

end Sys2Proof.Proofs
end

section
/-! PROOFS. The codec's bit reversal and its masked-shift form (42_frame_codec.md R190, R191). -/

namespace Sys2Proof.Proofs

open Sys2Proof.Machine Sys2Proof.Laws Sys2Proof.Claims

/-! ### The masked-shift form -/

/-- One round of masked shifts: the bits of `m` go up `k` places, and the others come down `k` places (R190). -/
def swapBits (k : Nat) (m x : Byte) : Byte := ((x &&& ~~~m) >>> k) ||| ((x &&& m) <<< k)

theorem reverseBitsMasked_eq (b : Byte) :
    reverseBitsMasked b = swapBits 1 0x55#8 (swapBits 2 0x33#8 (swapBits 4 0x0F#8 b)) := rfl

/-- When the bits `k` places above those of `m` are the others, a round swaps each bit of `m` with the one `k` places
above it. -/
theorem swapBits_getLsbD {k : Nat} {m : Byte} (hm : m <<< k = ~~~m) (x : Byte) {i : Nat} (hi : i < 8) :
    (swapBits k m x).getLsbD i = if m.getLsbD i then x.getLsbD (k + i) else x.getLsbD (i - k) := by
  have hdown : ((x &&& ~~~m) >>> k).getLsbD i = (m.getLsbD i && x.getLsbD (k + i)) := by
    rw [BitVec.getLsbD_ushiftRight, BitVec.getLsbD_and, ← hm, BitVec.getLsbD_shiftLeft]
    by_cases hk : k + i < 8
    · simp [hk, Bool.and_comm]
    · simp [BitVec.getLsbD_of_ge x (k + i) (not_lt.mp hk)]
  have hup : ((x &&& m) <<< k).getLsbD i = (!m.getLsbD i && x.getLsbD (i - k)) := by
    have hnot : (m <<< k).getLsbD i = !m.getLsbD i := by simp [hm, hi]
    rw [← hnot, BitVec.getLsbD_shiftLeft, BitVec.getLsbD_shiftLeft, BitVec.getLsbD_and, Bool.and_comm (x.getLsbD _),
      Bool.and_assoc (_ && _)]
  rw [swapBits, BitVec.getLsbD_or, hdown, hup]
  cases m.getLsbD i <;> simp

/-- Rounds of 4, 2 and 1 places take bit i to bit 7 - i (R190). -/
theorem reverseBitsMasked_getLsbD (b : Byte) (i : Fin 8) : (reverseBitsMasked b).getLsbD i = b.getLsbD (7 - i) := by
  have hround1 := @swapBits_getLsbD 1 0x55#8 rfl
  have hround2 := @swapBits_getLsbD 2 0x33#8 rfl
  have hround4 := @swapBits_getLsbD 4 0x0F#8 rfl
  rw [reverseBitsMasked_eq]
  fin_cases i <;> simp [-BitVec.getLsbD_eq_getElem, hround1, hround2, hround4]

theorem reverseBitsMasked_eq_reverseBits (b : Byte) : reverseBitsMasked b = reverseBits b :=
  BitVec.eq_of_getLsbD_eq fun i hi =>
    (reverseBitsMasked_getLsbD b ⟨i, hi⟩).trans (reverseBits_getLsbD b ⟨i, hi⟩).symm

/-! ### Reversing twice -/

/-- Bit i goes to bit 7 - i and back (R191). -/
theorem reverseBits_reverseBits (b : Byte) : reverseBits (reverseBits b) = b := by
  apply BitVec.eq_of_getLsbD_eq
  intro i hi
  calc (reverseBits (reverseBits b)).getLsbD i
      = (reverseBits b).getLsbD (7 - i) := reverseBits_getLsbD _ ⟨i, hi⟩
    _ = b.getLsbD (7 - (7 - i)) := reverseBits_getLsbD b ⟨7 - i, by omega⟩
    _ = b.getLsbD i := by rw [Nat.sub_sub_self (Nat.le_of_lt_succ hi)]

/-! ### The command -/

/-- `REVERSE_BITS` delivers the reversed byte, up to `settle` (R190). -/
theorem exec_reverseBits (b : Byte) (s : State) :
    exec (.reverseBits b) s = finish s (.ok (s.deliver (.byte (reverseBits b)))) :=
  exec_eq_finish (.reverseBits b) s rfl

/-- Settles O20: the command delivers the reversed byte, and both forms of the reversal have bit 7 - i at bit i. -/
theorem reverseBitsReversesTheBits : Obligations.ReverseBitsReversesTheBits := by
  intro b
  refine ⟨decode_wordOf 0x2 0x0 b, fun s hc => ?_⟩
  exact completes_of_finish_ok (exec_reverseBits b s) hc rfl
    ⟨reverseBits b, rfl, fun i hi => reverseBits_getLsbD b ⟨i, hi⟩, reverseBitsMasked_eq_reverseBits b⟩
    (onlyChanges_deliver (onlyChanges_refl [] s) _)

/-- Settles O21: the first command leaves a state that does not collide, so the second one completes as well. -/
theorem reversingTwiceRestoresTheByte : Obligations.ReversingTwiceRestoresTheByte := by
  intro b s hc
  refine ⟨reverseBits b, _, _, exec_of_finish_ok (exec_reverseBits b s) hc, rfl,
    exec_of_finish_ok (exec_reverseBits _ _) ?_, ?_⟩
  · simpa using hc
  · simp [reverseBits_reverseBits]

end Sys2Proof.Proofs
end

section
/-! PROOFS. The configuration invariants hold at launch, every step of the integrated machine keeps them, and a reception
excludes driving the line (43_line_arbiter.md R219, R220). -/

namespace Sys2Proof.Proofs

open Sys2Proof.Machine Sys2Proof.Laws Sys2Proof.Safety

/-! ### One line role at a time -/

/-- What the peripherals hold during a transfer whose shift-register mode is `m` (R219, invariants 2 and 3). -/
def TransferPeripherals (m : SrMode) (s : State) : Prop :=
  s.shift.mode = m ∧ s.shift.clk = .timerOvf ∧ s.shift.ovfIe = true ∧ s.timer.run = true ∧ s.timer.ovfIe = true ∧
    s.edge.ie = false

/-- What the peripherals hold while the line role is Idle (R219, invariant 4). -/
def IdlePeripherals (s : State) : Prop :=
  s.shift.mode = .off ∧ s.shift.ovfIe = false ∧ s.shift.ovfFlag = false ∧ s.timer.run = false ∧ s.timer.ovfIe = false ∧
    s.timer.ovfFlag = false

theorem TransferPeripherals.unarmed {m : SrMode} {s : State} (hp : TransferPeripherals m s) : s.edge.ie = false := by
  obtain ⟨-, -, -, -, -, hie⟩ := hp
  exact hie

theorem configurationInv_transmitting {s : State} (htx : s.status.txFromBufferActive = true)
    (hrx : s.status.rxPackageActive = false) (hp : TransferPeripherals .output s) : ConfigurationInv s := by
  refine ⟨?_, fun _ => hp, ?_, ?_, fun _ => htx, ?_⟩ <;> simp [htx, hrx, hp.unarmed]

theorem configurationInv_receiving {s : State} (htx : s.status.txFromBufferActive = false)
    (hhalf : s.status.txHalfFrameActive = false) (hrx : s.status.rxPackageActive = true)
    (hp : TransferPeripherals .input s) : ConfigurationInv s := by
  refine ⟨?_, ?_, fun _ => hp, ?_, ?_, ?_⟩ <;> simp [htx, hhalf, hrx, hp.unarmed]

theorem configurationInv_idle {s : State} (htx : s.status.txFromBufferActive = false)
    (hhalf : s.status.txHalfFrameActive = false) (hrx : s.status.rxPackageActive = false)
    (hp : IdlePeripherals s) : ConfigurationInv s := by
  refine ⟨?_, ?_, ?_, fun _ => hp, ?_, ?_⟩ <;> simp [htx, hhalf, hrx]

/-- A half-frame is on the wire only during a transmission (R219, invariant 5). -/
theorem txHalfFrameActive_eq_false {s : State} (hs : ConfigurationInv s) (htx : s.status.txFromBufferActive = false) :
    s.status.txHalfFrameActive = false := by
  obtain ⟨-, -, -, -, hhalf, -⟩ := hs
  exact Bool.eq_false_iff.mpr fun h => by simp [hhalf h] at htx

/-- The roles exclude each other (R219, invariant 1). -/
theorem rxPackageActive_eq_false {s : State} (hs : ConfigurationInv s) (htx : s.status.txFromBufferActive = true) :
    s.status.rxPackageActive = false := Bool.eq_false_iff.mpr fun hrx => hs.1 ⟨htx, hrx⟩

theorem transferPeripherals_of_transmitting {s : State} (hs : ConfigurationInv s)
    (htx : s.status.txFromBufferActive = true) : TransferPeripherals .output s := by
  obtain ⟨-, hout, -⟩ := hs
  exact hout htx

theorem inTransfer_eq_false_iff {s : State} :
    s.inTransfer = false ↔ s.status.txFromBufferActive = false ∧ s.status.rxPackageActive = false :=
  Bool.or_eq_false_iff

/-! ### What keeps the invariants -/

/-- What leaves the flags, the timer, the shift register and the arming alone keeps the invariants. -/
theorem configurationInv_congr {s t : State} (hs : ConfigurationInv s) (hst : t.status = s.status)
    (htm : t.timer = s.timer) (hsh : t.shift = s.shift) (hie : t.edge.ie = s.edge.ie) : ConfigurationInv t := by
  unfold ConfigurationInv
  rw [hst, htm, hsh, hie]
  exact hs

/-- A handler's entry clears a pending flag, which the invariants ask for only while Idle, and cleared (R348). -/
theorem configurationInv_enterHandler {s : State} (hs : ConfigurationInv s) (k : Irq) :
    ConfigurationInv (s.enterHandler k) := by
  obtain ⟨hexcl, htx, hrx, hidle, hhalf, harmed⟩ := hs
  cases k
  case edge => exact ⟨hexcl, htx, hrx, hidle, hhalf, harmed⟩
  case timerOvf =>
    refine ⟨hexcl, htx, hrx, fun h => ?_, hhalf, harmed⟩
    obtain ⟨hmode, hovfIe, hovfFlag, hrun, htimerIe, -⟩ := hidle h
    exact ⟨hmode, hovfIe, hovfFlag, hrun, htimerIe, rfl⟩
  case srOvf =>
    refine ⟨hexcl, htx, hrx, fun h => ?_, hhalf, harmed⟩
    obtain ⟨hmode, hovfIe, -, hrun, htimerIe, htimerFlag⟩ := hidle h
    exact ⟨hmode, hovfIe, rfl, hrun, htimerIe, htimerFlag⟩

/-- A released and armed block is idle, once the flags say so (R211). -/
theorem configurationInv_releaseAndArm {s : State} (htx : s.status.txFromBufferActive = false)
    (hhalf : s.status.txHalfFrameActive = false) (hrx : s.status.rxPackageActive = false) :
    ConfigurationInv (releaseAndArm s) := by
  apply configurationInv_idle <;> simp [htx, hhalf, hrx, IdlePeripherals]

/-- `START_RX` from Idle leaves the block receiving (R216). -/
theorem configurationInv_startRx {s : State} (hs : ConfigurationInv s) (h : s.inTransfer = false) :
    ConfigurationInv (startRx s) := by
  obtain ⟨htx, -⟩ := inTransfer_eq_false_iff.mp h
  have hhalf := txHalfFrameActive_eq_false hs htx
  apply configurationInv_receiving <;> simp [htx, hhalf, TransferPeripherals]

/-- `START_TX` with no reception running leaves the block transmitting (R210). -/
theorem configurationInv_startTx {s : State} (hrx : s.status.rxPackageActive = false) :
    ConfigurationInv (startTx s) := by
  apply configurationInv_transmitting <;> simp [hrx, TransferPeripherals]

/-- A count writes nothing the invariants speak of but flags, and none while Idle, where the timer is stopped (R276). -/
theorem configurationInv_countStep {s : State} (hs : ConfigurationInv s) : ConfigurationInv (countStep s) := by
  obtain ⟨tm, sh, hu, hrun, htimerIe, hmode, hclk, hovfIe, hstopped⟩ := countStep_shape s
  obtain ⟨hexcl, htx, hrx, hidle, hhalf, harmed⟩ := hs
  rw [hu]
  refine ⟨hexcl, ?_, ?_, fun h => ?_, hhalf, harmed⟩
  · simpa only [hrun, htimerIe, hmode, hclk, hovfIe] using htx
  · simpa only [hrun, htimerIe, hmode, hclk, hovfIe] using hrx
  · obtain ⟨-, -, -, hrun0, -, -⟩ := hidle h
    obtain ⟨rfl, rfl⟩ := hstopped hrun0
    exact hidle h

/-! ### The bodies -/

theorem handler_cases {i : Instr} (h : i.cmdClass = .handler) : ∃ k : Irq, i = k.instr := by
  cases i
  case isrEdge => exact ⟨.edge, rfl⟩
  case isrTimerOvf => exact ⟨.timerOvf, rfl⟩
  case isrSrOvf => exact ⟨.srOvf, rfl⟩
  all_goals cases h

/-- A host command reaches the peripherals only through `RELEASE_AND_ARM`, in `INIT_RECEIVER` while Idle (R302). -/
theorem configurationInv_apiBody {i : Instr} {s u : State} (hc : i.cmdClass = .api) (hs : ConfigurationInv s)
    (h : bodyOf i s = .ok u) : ConfigurationInv u := by
  cases i
  case initReceiver =>
    obtain ⟨htransfer, ⟨rfl, -⟩ | ⟨rfl, -⟩⟩ := initReceiverBody_ok h
    · exact hs
    · obtain ⟨htx, hrx⟩ := inTransfer_eq_false_iff.mp htransfer
      exact configurationInv_congr (configurationInv_releaseAndArm htx (txHalfFrameActive_eq_false hs htx) hrx)
        rfl rfl rfl rfl
  case flushBuffers => obtain ⟨-, rfl⟩ := flushBuffersBody_ok h; exact hs
  case transmitByte | receiveByte | dataAvailable | readRxOverflow | clearRxOverflow => cases h; exact hs
  all_goals cases hc

/-- The overflow handler's four branches: two go on transmitting, the others end a transfer and release the line
(44_transport.md R241 to R244). -/
theorem configurationInv_isrSrOvfBody {s u : State} (hs : ConfigurationInv s) (h : isrSrOvfBody s = .ok u) :
    ConfigurationInv u := by
  rcases isrSrOvfBody_ok h with ⟨htx, -, rfl⟩ | ⟨htx, hhalf, -, rfl⟩ | ⟨htx, -, q, v, rfl⟩ | ⟨htx, -, q, o, -, rfl⟩
  · have hrx := rxPackageActive_eq_false hs htx
    have hp := transferPeripherals_of_transmitting hs htx
    exact configurationInv_transmitting htx hrx hp
  · have hrx := rxPackageActive_eq_false hs htx
    exact configurationInv_releaseAndArm rfl hhalf hrx
  · have hrx := rxPackageActive_eq_false hs htx
    have hp := transferPeripherals_of_transmitting hs htx
    exact configurationInv_transmitting htx hrx hp
  · have hhalf := txHalfFrameActive_eq_false hs htx
    exact configurationInv_releaseAndArm htx hhalf rfl

theorem configurationInv_handlerBody {k : Irq} {s u : State} (hs : ConfigurationInv s)
    (h : bodyOf k.instr s = .ok u) : ConfigurationInv u := by
  have hentered := configurationInv_enterHandler hs k
  cases k
  case edge =>
    obtain ⟨htransfer, ⟨rfl, -⟩ | ⟨rfl, -⟩⟩ := isrEdgeBody_ok h
    · exact hentered
    · exact configurationInv_startRx hentered htransfer
  case timerOvf => cases h; exact hentered
  case srOvf => exact configurationInv_isrSrOvfBody hentered h

theorem configurationInv_eventBody {i : Instr} {s u : State} (hc : i.cmdClass = .event) (hs : ConfigurationInv s)
    (h : bodyOf i s = .ok u) : ConfigurationInv u := by
  rcases event_cases hc with rfl | ⟨l, rfl⟩ | ⟨g, rfl⟩ | rfl <;> cases h
  · exact configurationInv_countStep hs
  · exact hs
  · exact hs
  · exact configurationInv_idle rfl rfl rfl ⟨rfl, rfl, rfl, rfl, rfl, rfl⟩

/-- A micro-step reaches the peripherals only through `START_TX`, with no reception running (46_public_api.md R306). -/
theorem configurationInv_microStepBody {s u : State} (hs : ConfigurationInv s) (h : microStepBody s = .ok u) :
    ConfigurationInv u := by
  rcases microStepBody_ok h with rfl | ⟨v, q, -, rfl⟩ | ⟨-, -, rfl⟩ | ⟨-, -, rfl⟩ | ⟨-, hrx, rfl⟩ | ⟨-, q, v, rfl⟩
  case inr.inr.inr.inr.inl => exact configurationInv_congr (configurationInv_startTx hrx) rfl rfl rfl rfl
  all_goals exact hs

/-! ### The step -/

/-- The commands the integrated machine runs: host commands, handlers and events, since `MAIN` refuses the host any other
(30_encoding.md R111, R122). -/
def IntegratedClass (c : CmdClass) : Prop := c = .api ∨ c = .handler ∨ c = .event

/-- What a step of the integrated machine takes from its inputs leaves it integrated. -/
theorem integrated_of_fetchNext_run {s u : State} {i : Instr} (hs : Integrated s) (h : fetchNext s = .run i u) :
    IntegratedClass i.cmdClass ∧ Integrated u := by
  rcases (fetchNext_run h).2 with ⟨rfl, -, rfl⟩ | ⟨rest, -, rfl, rfl⟩ | ⟨k, rest, -, -, rfl, rfl⟩ |
    ⟨w, rest, -, -, hc, -, rfl⟩ | ⟨q, waiting, rest, -, -, hq, -, hc, rfl⟩
  · exact ⟨.inr (.inr rfl), hs⟩
  · exact ⟨.inr (.inr rfl), hs⟩
  · exact ⟨.inr (.inl (by cases k <;> rfl)), hs⟩
  · exact ⟨.inr (.inr hc), hs⟩
  · have hissuer : q.issuer = .host := hs q (by simp [hq])
    have hapi : i.cmdClass = .api := hc.resolve_right fun h => by simp [hissuer] at h
    exact ⟨.inl hapi, fun p hp => hs p (by simp [hq, List.mem_cons_of_mem q hp])⟩

/-- The waiting words and the schedule are no part of the invariants. -/
theorem configurationInv_setInputs {s : State} (hs : ConfigurationInv s) (waiting : List Request) (rest : List Agent) :
    ConfigurationInv { s with inbox := waiting, sched := rest } := hs

theorem configurationInv_exec {i : Instr} {s t : State} (hc : IntegratedClass i.cmdClass) (hs : ConfigurationInv s)
    (h : exec i s = .next t) : ConfigurationInv t := by
  obtain ⟨-, u, hu, -, rfl⟩ := exec_next h
  have hkept : ConfigurationInv u := by
    rcases hc with hc | hc | hc
    · exact configurationInv_apiBody hc hs hu
    · obtain ⟨k, rfl⟩ := handler_cases hc
      exact configurationInv_handlerBody hs hu
    · exact configurationInv_eventBody hc hs hu
  exact configurationInv_congr hkept rfl rfl rfl rfl

theorem configurationInv_microStep {s t : State} (hs : ConfigurationInv s) (h : microStep s = .next t) :
    ConfigurationInv t := by
  obtain ⟨u, hu, -, rfl⟩ := finish_next.mp h
  exact configurationInv_congr (configurationInv_microStepBody hs hu) rfl rfl rfl rfl

/-- No step puts a word in the inbox. -/
theorem integrated_exec {i : Instr} {s t : State} (hs : Integrated s) (h : exec i s = .next t) : Integrated t := by
  obtain ⟨-, u, hu, -, rfl⟩ := exec_next h
  obtain ⟨-, -, -, hinbox, -⟩ := bodyOf_records hu
  simpa [Integrated, hinbox] using hs

theorem integrated_microStep {s t : State} (hs : Integrated s) (h : microStep s = .next t) : Integrated t := by
  obtain ⟨u, hu, -, rfl⟩ := finish_next.mp h
  obtain ⟨⟨-, -, -, hinbox, -⟩, -⟩ := microStepBody_same hu
  simpa [Integrated, hinbox] using hs

theorem integrated_of_fetchNext_micro {s u : State} (hs : Integrated s) (h : fetchNext s = .micro u) :
    Integrated u := by
  obtain ⟨-, rest, -, -, rfl⟩ := fetchNext_micro h
  exact hs

/-- Settles O47: a step of the integrated machine is a host command, a handler, an event or a micro-step, and each keeps
the invariants. -/
theorem everyStepKeepsTheConfigurationInvariants : Obligations.EveryStepKeepsTheConfigurationInvariants := by
  intro s t hint hs h
  rcases step_next h with ⟨i, u, hf, hx⟩ | ⟨u, hf, hx⟩
  · obtain ⟨hc, hu⟩ := integrated_of_fetchNext_run hint hf
    obtain ⟨waiting, rest, rfl⟩ := fetchNext_run_inputs hf
    exact ⟨integrated_exec hu hx, configurationInv_exec hc (configurationInv_setInputs hs waiting rest) hx⟩
  · have hu := integrated_of_fetchNext_micro hint hf
    obtain ⟨-, rest, -, -, rfl⟩ := fetchNext_micro hf
    exact ⟨integrated_microStep hu hx, configurationInv_microStep (configurationInv_setInputs hs s.inbox rest) hx⟩

/-! ### Launch -/

theorem ringInv_launch {c : Config} (hv : c.valid = true) (inflight sr : Byte) (cnt : Nibble) :
    RingInv (State.launch c inflight sr cnt) :=
  ringInv_iff.mpr ⟨hv, ringFits_empty hv .tx, ringFits_empty hv .rx⟩

theorem launchPremise_reset : LaunchPremise State.reset := ⟨by decide, 0, 0, 0, rfl⟩

/-- Settles O49: at launch the block is idle, no word waits, and both rings are empty. -/
theorem invariantsHoldAtLaunch : Obligations.InvariantsHoldAtLaunch := by
  intro c inflight sr cnt hv
  exact ⟨fun q hq => absurd hq List.not_mem_nil, configurationInv_idle rfl rfl rfl ⟨rfl, rfl, rfl, rfl, rfl, rfl⟩,
    ringInv_launch hv inflight sr cnt, .inr (.inr (.inr rfl)), ⟨rfl, rfl⟩, launchPremise_reset⟩

/-! ### Reception -/

/-- No command starts a transmission: `START_TX` is `TB_WAIT_RX`'s (R210, R220). -/
theorem bodyOf_txFromBufferActive {i : Instr} {s u : State} (h : bodyOf i s = .ok u)
    (htx : s.status.txFromBufferActive = false) : u.status.txFromBufferActive = false := by
  by_cases hr : i = .reset
  · subst hr; cases h; rfl
  by_cases he : i = .isrEdge
  · subst he
    rcases (isrEdgeBody_ok h).2 with ⟨rfl, -⟩ | ⟨rfl, -⟩ <;> simpa using htx
  by_cases hs : i = .isrSrOvf
  · subst hs
    rcases isrSrOvfBody_ok h with ⟨h1, -⟩ | ⟨h1, -⟩ | ⟨h1, -⟩ | ⟨-, -, q, o, -, rfl⟩
    case inr.inr.inr => simpa using htx
    all_goals exact absurd htx (by simpa using h1)
  by_cases hc : i = .clearRxOverflow
  · subst hc; cases h; exact htx
  rw [bodyOf_status h hr he hs hc]
  exact htx

/-- While a reception is active no micro-step starts a transmission (R220). -/
theorem microStepBody_txFromBufferActive {s u : State} (h : microStepBody s = .ok u)
    (hrx : s.status.rxPackageActive = true) : u.status.txFromBufferActive = s.status.txFromBufferActive := by
  rcases microStepBody_ok h with rfl | ⟨v, q, -, rfl⟩ | ⟨-, -, rfl⟩ | ⟨-, -, rfl⟩ | ⟨-, hno, rfl⟩ | ⟨-, q, v, rfl⟩
  case inr.inr.inr.inr.inl => exact absurd hrx (by simp [hno])
  all_goals rfl

/-- A step taken during a reception leaves no transmission active (R220). -/
theorem step_txFromBufferActive {s t : State} (htx : s.status.txFromBufferActive = false)
    (hrx : s.status.rxPackageActive = true) (h : step s = .next t) : t.status.txFromBufferActive = false := by
  rcases step_next h with ⟨i, v, hf, hx⟩ | ⟨v, hf, hx⟩
  · obtain ⟨waiting, rest, rfl⟩ := fetchNext_run_inputs hf
    obtain ⟨-, u, hu, -, rfl⟩ := exec_next hx
    rw [settleEdge_status]
    exact bodyOf_txFromBufferActive hu htx
  · obtain ⟨-, rest, -, -, rfl⟩ := fetchNext_micro hf
    obtain ⟨u, hu, -, rfl⟩ := finish_next.mp hx
    exact (microStepBody_txFromBufferActive hu hrx).trans htx

/-- Only a transmission drives the line (R219). -/
theorem mode_ne_output {s : State} (hs : ConfigurationInv s) (htx : s.status.txFromBufferActive = false) :
    s.shift.mode ≠ .output := by
  obtain ⟨-, -, hrx, hidle, -, -⟩ := hs
  cases h : s.status.rxPackageActive
  · simp [(hidle ⟨htx, h⟩).1]
  · simp [(hrx h).1]

/-- Settles O51: the roles exclude each other before the step, and the step keeps the invariants and starts no
transmission. -/
theorem receptionExcludesDrivingTheLine : Obligations.ReceptionExcludesDrivingTheLine := by
  intro s t hint hs hrx h
  have htx : s.status.txFromBufferActive = false := Bool.eq_false_iff.mpr fun h => hs.1 ⟨h, hrx⟩
  have htx' := step_txFromBufferActive htx hrx h
  have hs' := (everyStepKeepsTheConfigurationInvariants s t hint hs h).2
  exact ⟨mode_ne_output hs htx, mode_ne_output hs' htx', htx'⟩

end Sys2Proof.Proofs
end

section
/-! PROOFS. The edge detector's commands, the edge handler and the start of a transmission: what each writes and leaves
alone (43_line_arbiter.md R202 to R216, 46_public_api.md R306). -/

namespace Sys2Proof.Proofs

open Sys2Proof.Machine Sys2Proof.Laws Sys2Proof.Claims

/-! ### Frames -/

theorem onlyChanges_mono {ps qs : List Part} {s u : State} (hsub : ps ⊆ qs) (h : OnlyChanges ps s u) :
    OnlyChanges qs s u := fun p hp => h p (mt (@hsub p) hp)

/-- A recorded fault joins `FAULTS` and changes nothing else (R341). -/
theorem onlyChanges_recordFault {parts : List Part} {s u : State} (h : OnlyChanges parts s u) (c : FaultCode) :
    OnlyChanges (.faults :: parts) s (u.recordFault c) := by
  intro p hnot
  obtain ⟨hfaults, hp⟩ := List.ne_and_not_mem_of_not_mem_cons hnot
  have hu := h p hp
  cases p
  case faults => exact absurd rfl hfaults
  all_goals exact hu

/-- A step whose body drives against a far end at 0 raises `F_COLLISION` and keeps its writes (R205, R341). -/
theorem collidesAfter_of_finish_ok {o : Outcome} {s u : State} {parts : List Part} {post : State → Prop}
    (hx : o = finish s (.ok u)) (hc : u.collides = true) (hfaults : u.faults = s.faults)
    (hpost : post (u.settleEdge.recordFault .collision))
    (hframe : OnlyChanges (.edgeFlag :: .lastLevel :: parts) s u) : CollidesAfter o s parts post := by
  refine ⟨_, hx.trans ((finish_ok s u).trans (settle_of_collides hc)), fun d => ?_, hpost,
    onlyChanges_mono ?_ (onlyChanges_recordFault (onlyChanges_settleEdge hframe) .collision)⟩
  · rw [recordFault_faults, mem_insertCode, settleEdge_faults, hfaults]
  · simp

theorem onlyChanges_edgeArm (s : State) : OnlyChanges [.edgeIe, .edgeFlag, .lastLevel] s (edgeArm s) := by
  intro p hp
  cases p
  case edgeIe | edgeFlag | lastLevel => exact absurd hp (by simp)
  all_goals rfl

theorem onlyChanges_edgeDisarm (s : State) : OnlyChanges [.edgeIe, .edgeFlag] s (edgeDisarm s) := by
  intro p hp
  cases p
  case edgeIe | edgeFlag => exact absurd hp (by simp)
  all_goals rfl

/-! ### The edge detector's commands -/

/-- `LINE_READ` delivers the line's level, up to `settle` (R204). -/
theorem exec_lineRead (s : State) : exec .lineRead s = finish s (.ok (s.deliver (.bool s.line))) :=
  exec_eq_finish .lineRead s rfl

/-- Settles O31: arming has seen the line, so `settle` latches nothing; disarming leaves the level last seen to `settle`. -/
theorem edgeDetectorPrimitives : Obligations.EdgeDetectorPrimitives := by
  refine ⟨rfl, rfl, rfl, fun s hc => ⟨?arm, ?disarm, ?read⟩⟩
  case arm =>
    refine ⟨_, exec_of_finish_ok (exec_eq_finish .edgeArm s rfl) hc, rfl, ?_, rfl, ?_⟩
    · exact bne_self_eq_false s.line
    · exact onlyChanges_mono (by simp) (onlyChanges_settleEdge (onlyChanges_edgeArm s))
  case disarm =>
    refine ⟨_, exec_of_finish_ok (exec_eq_finish .edgeDisarm s rfl) hc, rfl, ?_, rfl, ?_⟩
    · exact Bool.false_or _
    · exact onlyChanges_mono (by simp) (onlyChanges_settleEdge (onlyChanges_edgeDisarm s))
  case read =>
    exact completes_of_finish_ok (exec_lineRead s) hc rfl rfl (onlyChanges_deliver (onlyChanges_refl [] s) _)

/-! ### `ISR_EDGE` -/

theorem ring_congr {s u : State} (htx : u.tx = s.tx) (hrx : u.rx = s.rx) (r : RingSel) : u.ring r = s.ring r := by
  cases r
  · exact htx
  · exact hrx

@[simp] theorem startRx_ring (s : State) (r : RingSel) : (startRx s).ring r = s.ring r :=
  ring_congr (startRx_tx s) (startRx_rx s) r

@[simp] theorem startRx_line (s : State) : (startRx s).line = s.extLevel := by simp [State.line]

theorem startRx_collides (s : State) : (startRx s).collides = false := by simp [State.collides]

/-- The parts `START_RX` writes (R216). -/
def receptionStartParts : List Part :=
  [.tcnt, .timerRun, .timerOvfIe, .timerOvfFlag, .srMode, .srClk, .cnt, .srOvfFlag, .srOvfIe, .edgeIe, .edgeFlag,
    .rxPackageActive]

theorem onlyChanges_startRx (s : State) : OnlyChanges receptionStartParts s (startRx s) := by
  intro p hp
  cases p
  case tcnt | timerRun | timerOvfIe | timerOvfFlag | srMode | srClk | cnt | srOvfFlag | srOvfIe | edgeIe | edgeFlag |
      rxPackageActive => exact absurd hp (by simp [receptionStartParts])
  case slot r i => exact slot_congr (by rw [startRx_ring]) (startRx_draws s) i
  all_goals simp [Unchanged]

/-- The edge handler's entry clears its flag alone, which `START_RX` clears as well (R348). -/
theorem startRx_enterHandler_edge (s : State) : startRx (s.enterHandler .edge) = startRx s := rfl

theorem onlyChanges_enterHandler_edge (s : State) : OnlyChanges [.edgeFlag] s (s.enterHandler .edge) := by
  intro p hp
  cases p
  case edgeFlag => exact absurd hp (by simp)
  all_goals rfl

theorem exec_isrEdge (s : State) : exec .isrEdge s = finish s (isrEdgeBody (s.enterHandler .edge)) :=
  exec_eq_finish .isrEdge s rfl

theorem isrEdgeBody_of_inTransfer {s : State} (h : s.inTransfer = true) :
    isrEdgeBody s = .error .edgeInTransfer := if_pos h

theorem isrEdgeBody_of_line_high {s : State} (h : s.inTransfer = false) (hl : s.line = true) :
    isrEdgeBody s = .ok s := by simp [isrEdgeBody, h, hl]

theorem isrEdgeBody_of_line_low {s : State} (h : s.inTransfer = false) (hl : s.line = false) :
    isrEdgeBody s = .ok (startRx s) := by simp [isrEdgeBody, h, hl]

/-- Settles O32: the handler's three branches, each followed by `settle`. -/
theorem edgeHandlerStartsAReceptionOnALowLine : Obligations.EdgeHandlerStartsAReceptionOnALowLine := by
  refine ⟨rfl, fun s => ⟨fun ht => ?transfer, fun ht hl => ?low, fun ht hl hc => ?high⟩⟩
  case transfer =>
    have hb := isrEdgeBody_of_inTransfer (s := s.enterHandler .edge) ht
    exact faultsOnly_of_finish_error (by rw [exec_isrEdge, hb])
  case low =>
    have hb := isrEdgeBody_of_line_low (s := s.enterHandler .edge) ht hl
    have hx : exec .isrEdge s = finish s (.ok (startRx s)) := by rw [exec_isrEdge, hb, startRx_enterHandler_edge]
    refine ⟨_, exec_of_finish_ok hx (startRx_collides s), ?_, ?_, ?_, ?_, ?_, ?_, ?cnt, ?_, ?_, ?_, ?_, ?_, ?_,
      onlyChanges_mono ?parts (onlyChanges_settleEdge (onlyChanges_startRx s))⟩
    case cnt => simp [seedRx]
    case parts => simp [receptionStartParts]
    all_goals simp
  case high =>
    have hb := isrEdgeBody_of_line_high (s := s.enterHandler .edge) ht hl
    have hx : exec .isrEdge s = finish s (.ok (s.enterHandler .edge)) := by rw [exec_isrEdge, hb]
    have hline : (s.enterHandler .edge).line = true := hl
    refine ⟨_, exec_of_finish_ok hx hc, ?_, ?_,
      onlyChanges_mono (by simp) (onlyChanges_settleEdge (onlyChanges_enterHandler_edge s))⟩
    · simp [hline]
    · simp [hline]

/-! ### `TB_WAIT_RX` -/

/-- The state after `START_TX` in `TB_WAIT_RX`, before `settle` (R210, R306). -/
def transmissionStart (s : State) : State := (startTx s).complete .none

theorem microStep_of_tbWaitRx {s : State} (h : s.mainPc = .tbWaitRx) :
    microStep s = finish s (.ok (tbWaitRx s)) := by
  rw [microStep, microStepBody, h]

theorem tbWaitRx_of_receiving {s : State} (h : s.status.rxPackageActive = true) : tbWaitRx s = s := if_pos h

theorem tbWaitRx_of_not_receiving {s : State} (h : s.status.rxPackageActive = false) :
    tbWaitRx s = transmissionStart s := if_neg (by simp [h])

@[simp] theorem transmissionStart_ring (s : State) (r : RingSel) : (transmissionStart s).ring r = s.ring r :=
  ring_congr (startTx_tx s) (startTx_rx s) r

/-- The priming value puts the line at 1 (R128). -/
theorem transmissionStart_line (s : State) : (transmissionStart s).line = true := by
  simp [transmissionStart, State.line, primingValue]

/-- The block drives once the transmission is started, so it collides with a far end at 0 (R342). -/
theorem transmissionStart_collides (s : State) : (transmissionStart s).collides = !s.extLevel := by
  simp [transmissionStart, State.collides]

theorem onlyChanges_transmissionStart (s : State) :
    OnlyChanges (.edgeFlag :: transmissionStartParts) s (transmissionStart s) := by
  intro p hp
  cases p
  case tcnt | timerRun | timerOvfIe | timerOvfFlag | sr | srMode | srClk | cnt | srOvfFlag | srOvfIe | edgeIe |
      edgeFlag | txFromBufferActive | txHalfFrameActive | ret | mainPc =>
    exact absurd hp (by simp [transmissionStartParts])
  case slot r i => exact slot_congr (congrArg RingBuffer.buf (transmissionStart_ring s r)) (startTx_draws s) i
  case head r | tail r => rw [Unchanged, transmissionStart_ring]
  all_goals simp [Unchanged, transmissionStart]

theorem transmissionStarted_settleEdge (s : State) : TransmissionStarted s (transmissionStart s).settleEdge := by
  have hline : ((startTx s).complete .none).line = true := transmissionStart_line s
  simp [TransmissionStarted, transmissionStart, hline, primingValue, seedPrime, Config.txStart]

/-- Settles O44: staying changes nothing; starting writes what R210 says, and collides or not by the far end's level. -/
theorem tbWaitRxStartsTheTransmission : Obligations.TbWaitRxStartsTheTransmission := by
  intro s hpc
  have hx := microStep_of_tbWaitRx hpc
  refine ⟨fun hrx hc => ?stay, fun hrx hext => ?start, fun hrx hext => ?collide⟩
  case stay =>
    rw [tbWaitRx_of_receiving hrx] at hx
    exact ⟨_, hx.trans (settle_of_not_collides hc), ⟨rfl, rfl⟩, onlyChanges_settleEdge (onlyChanges_refl [] s)⟩
  case start =>
    rw [tbWaitRx_of_not_receiving hrx] at hx
    have hc : (transmissionStart s).collides = false := by rw [transmissionStart_collides, hext]; rfl
    exact ⟨_, hx.trans (settle_of_not_collides hc), transmissionStarted_settleEdge s,
      onlyChanges_mono (by simp) (onlyChanges_settleEdge (onlyChanges_transmissionStart s))⟩
  case collide =>
    rw [tbWaitRx_of_not_receiving hrx] at hx
    have hc : (transmissionStart s).collides = true := by rw [transmissionStart_collides, hext]; rfl
    exact collidesAfter_of_finish_ok hx hc (startTx_faults s) (transmissionStarted_settleEdge s)
      (onlyChanges_mono (by simp) (onlyChanges_transmissionStart s))

end Sys2Proof.Proofs
end

section
/-! PROOFS. Every step ends settled: `LAST_LEVEL` is the line, a level change latches `EDGE_FLAG`, and a drive against a far
end at 0 is a collision (43_line_arbiter.md R205, 60_exceptions.md R342). -/

namespace Sys2Proof.Proofs

open Sys2Proof.Machine Sys2Proof.Laws Sys2Proof.Safety

/-! ### What a body does to the edge detector -/

/-- `u` has seen the level `s` has last seen, and no flag is set in it that is not in `s`. -/
def KeepsLevelSeen (s u : State) : Prop :=
  u.edge.lastLevel = s.edge.lastLevel ∧ (u.edge.flag = true → s.edge.flag = true)

/-- The edge detector of `u` has seen the line and nothing is pending in it: what sampling the line leaves (R202, R65). -/
def HasSampledLine (u : State) : Prop := u.edge.lastLevel = u.line ∧ u.edge.flag = false

theorem keepsLevelSeen_of_edge_eq {s u : State} (h : u.edge = s.edge) : KeepsLevelSeen s u := by
  simp [KeepsLevelSeen, h]

theorem hasSampledLine_releaseAndArm (s : State) : HasSampledLine (releaseAndArm s) := by
  simp [HasSampledLine, State.line]

/-- The commands that may sample the line themselves (R202, R65). -/
def MaySample (i : Instr) : Prop := i = .edgeArm ∨ i = .initReceiver ∨ i = .isrSrOvf ∨ i = .reset

/-- The overflow handler ends a transfer by sampling the line, or goes on without it (44_transport.md R241 to R244). -/
theorem isrSrOvfBody_edge {s u : State} (h : isrSrOvfBody s = .ok u) : KeepsLevelSeen s u ∨ HasSampledLine u := by
  rcases isrSrOvfBody_ok h with ⟨-, -, rfl⟩ | ⟨-, -, -, rfl⟩ | ⟨-, -, q, v, rfl⟩ | ⟨-, -, q, o, -, rfl⟩
  · exact .inl (keepsLevelSeen_of_edge_eq (by simp))
  · exact .inr (hasSampledLine_releaseAndArm _)
  · exact .inl (keepsLevelSeen_of_edge_eq (by simp))
  · exact .inr (hasSampledLine_releaseAndArm _)

/-- A body leaves the edge detector to `settle`, or samples the line and leaves nothing pending. -/
theorem bodyOf_edge {i : Instr} {s u : State} (h : bodyOf i s = .ok u) :
    KeepsLevelSeen s u ∨ MaySample i ∧ HasSampledLine u := by
  cases i
  case edgeArm => cases h; exact .inr ⟨.inl rfl, rfl, rfl⟩
  case reset => cases h; exact .inr ⟨.inr (.inr (.inr rfl)), rfl, rfl⟩
  case initReceiver =>
    rcases (initReceiverBody_ok h).2 with ⟨rfl, -⟩ | ⟨rfl, -⟩
    · exact .inl (keepsLevelSeen_of_edge_eq rfl)
    · exact .inr ⟨.inr (.inl rfl), hasSampledLine_releaseAndArm s⟩
  case isrSrOvf =>
    exact (isrSrOvfBody_edge h).imp_right fun hu => ⟨.inr (.inr (.inl rfl)), hu⟩
  case isrEdge =>
    left
    rcases (isrEdgeBody_ok h).2 with ⟨rfl, -⟩ | ⟨rfl, -⟩ <;> simp [KeepsLevelSeen]
  case edgeDisarm => cases h; exact .inl ⟨rfl, nofun⟩
  case flushBuffers => obtain ⟨-, rfl⟩ := flushBuffersBody_ok h; exact .inl (keepsLevelSeen_of_edge_eq rfl)
  case rbPushTx | rbPushRx => obtain ⟨q, b, rfl⟩ := pushBody_ok h; exact .inl (keepsLevelSeen_of_edge_eq rfl)
  case rbPopTx | rbPopRx => obtain ⟨q, b, rfl⟩ := popBody_ok h; exact .inl (keepsLevelSeen_of_edge_eq rfl)
  all_goals cases h; exact .inl (keepsLevelSeen_of_edge_eq (by simp))

/-- A micro-step leaves the edge detector to `settle`; `START_TX` clears its flag (R210). -/
theorem microStepBody_edge {s u : State} (h : microStepBody s = .ok u) : KeepsLevelSeen s u := by
  rcases microStepBody_ok h with rfl | ⟨v, q, -, rfl⟩ | ⟨-, -, rfl⟩ | ⟨-, -, rfl⟩ | ⟨-, -, rfl⟩ | ⟨-, q, v, rfl⟩
  all_goals simp [KeepsLevelSeen]

/-! ### What `settle` then leaves -/

theorem settled_settleEdge {u : State} (h : u.collides = false) : Settled u.settleEdge := ⟨rfl, h⟩

/-- A level that differs from the one last seen latches the flag (R205). -/
theorem settleEdge_flag_of_ne {s u : State} (h : KeepsLevelSeen s u) (hne : u.line ≠ s.edge.lastLevel) :
    u.settleEdge.edge.flag = true := by
  have hu : u.line ≠ u.edge.lastLevel := h.1.symm ▸ hne
  simp [bne_iff_ne.mpr hu]

/-- A level that does not differ sets no flag (R205). -/
theorem settleEdge_flag_of_eq {s u : State} (h : KeepsLevelSeen s u) (heq : u.line = s.edge.lastLevel)
    (hf : u.settleEdge.edge.flag = true) : s.edge.flag = true := by
  obtain ⟨hlevel, hflag⟩ := h
  exact hflag (by simpa [hlevel, heq] using hf)

theorem settleEdge_flag_of_sampled {u : State} (h : HasSampledLine u) : u.settleEdge.edge.flag = false := by
  obtain ⟨hlevel, hflag⟩ := h
  simp [hlevel, hflag]

/-! ### The faults of a body -/

theorem rbPush_error {r : RingSel} {v : Byte} {s : State} {c : FaultCode} (h : rbPush r v s = .error c) :
    c = .index := by
  unfold rbPush memWrite at h
  split_ifs at h
  exact (Except.error.inj h).symm

theorem rbPop_error {r : RingSel} {s : State} {c : FaultCode} (h : rbPop r s = .error c) :
    c = .popEmpty ∨ c = .index := by
  unfold rbPop memRead at h
  split_ifs at h
  · exact .inl (Except.error.inj h).symm
  · exact .inr (Except.error.inj h).symm

theorem pushBody_error {r : RingSel} {v : Byte} {s : State} {c : FaultCode} (h : pushBody r v s = .error c) :
    c = .index := by
  unfold pushBody at h
  split at h
  · rename_i hp
    cases h
    exact rbPush_error hp
  · cases h

theorem popBody_error {r : RingSel} {s : State} {c : FaultCode} (h : popBody r s = .error c) :
    c = .popEmpty ∨ c = .index := by
  unfold popBody at h
  split at h
  · rename_i hp
    cases h
    exact rbPop_error hp
  · cases h

theorem initReceiverBody_error {s : State} {c : FaultCode} (h : initReceiverBody s = .error c) :
    c = .initDuringTransfer := by
  unfold initReceiverBody at h
  split_ifs at h
  exact (Except.error.inj h).symm

theorem flushBuffersBody_error {s : State} {c : FaultCode} (h : flushBuffersBody s = .error c) :
    c = .flushDuringTransfer := by
  unfold flushBuffersBody at h
  split_ifs at h
  exact (Except.error.inj h).symm

theorem isrEdgeBody_error {s : State} {c : FaultCode} (h : isrEdgeBody s = .error c) : c = .edgeInTransfer := by
  unfold isrEdgeBody at h
  split_ifs at h
  exact (Except.error.inj h).symm

theorem loadNextByte_error {s : State} {c : FaultCode} (h : loadNextByte s = .error c) :
    c = .popEmpty ∨ c = .index := by
  unfold loadNextByte at h
  split at h
  · rename_i hp
    cases h
    exact rbPop_error hp
  · cases h

theorem storeReceived_error {s : State} {c : FaultCode} (h : storeReceived s = .error c) : c = .index := by
  unfold storeReceived at h
  split at h
  · rename_i hp
    cases h
    exact rbPush_error hp
  all_goals cases h

theorem isrSrOvfBody_error {s : State} {c : FaultCode} (h : isrSrOvfBody s = .error c) :
    c = .spuriousSrOvf ∨ c = .popEmpty ∨ c = .index := by
  unfold isrSrOvfBody at h
  split_ifs at h
  · exact .inr (loadNextByte_error h)
  · exact .inr (.inr (storeReceived_error h))
  · exact .inl (Except.error.inj h).symm

/-- `F_COLLISION` is `settle`'s: no command's body raises it (R341). -/
theorem bodyOf_error_ne_collision {i : Instr} {s : State} {c : FaultCode} (h : bodyOf i s = .error c) :
    c ≠ .collision := by
  cases i
  case initReceiver => simp [initReceiverBody_error h]
  case flushBuffers => simp [flushBuffersBody_error h]
  case rbPushTx | rbPushRx => simp [pushBody_error h]
  case rbPopTx | rbPopRx => rcases popBody_error h with rfl | rfl <;> simp
  case isrEdge => simp [isrEdgeBody_error h]
  case isrSrOvf => rcases isrSrOvfBody_error h with rfl | rfl | rfl <;> simp
  all_goals cases h

theorem tbSpace_error {v : Byte} {s : State} {c : FaultCode} (h : tbSpace v s = .error c) : c = .index := by
  unfold tbSpace at h
  split at h
  · rename_i hp
    cases h
    exact rbPush_error hp
  all_goals cases h

theorem rbWait_error {s : State} {c : FaultCode} (h : rbWait s = .error c) : c = .popEmpty ∨ c = .index := by
  unfold rbWait at h
  split at h
  · cases h
  · split at h
    · rename_i hp
      cases h
      exact rbPop_error hp
    · cases h

theorem microStepBody_error_ne_collision {s : State} {c : FaultCode} (h : microStepBody s = .error c) :
    c ≠ .collision := by
  unfold microStepBody at h
  split at h
  case h_2 => simp [tbSpace_error h]
  case h_5 => rcases rbWait_error h with rfl | rfl <;> simp
  all_goals cases h

/-! ### Collisions -/

theorem collides_iff {s : State} : s.collides = true ↔ s.shift.mode = .output ∧ s.extLevel = false := by
  simp [State.collides]

/-- What `F_COLLISION` leaves: the block drives against a far end at 0, and the line has been seen (R205, R342). -/
def CollidedState (t : State) : Prop :=
  t.shift.mode = .output ∧ t.extLevel = false ∧ t.edge.lastLevel = t.line

/-- A step whose body does not raise `F_COLLISION` itself raises it in `settle`, in a collided state. -/
theorem collidedState_of_finish {s t : State} {body : Except FaultCode State}
    (hbody : ∀ c, body = .error c → c ≠ .collision) (h : finish s body = .fault (.raised .collision t)) :
    CollidedState t := by
  rcases finish_fault h with ⟨c, hc, heq⟩ | ⟨u, -, hcol, heq⟩ <;> cases heq
  · exact absurd rfl (hbody _ hc)
  · obtain ⟨hmode, hext⟩ := collides_iff.mp hcol
    exact ⟨hmode, hext, rfl⟩

theorem collidedState_of_exec {i : Instr} {s t : State} (h : exec i s = .fault (.raised .collision t)) :
    CollidedState t := by
  cases hr : refusedForm i
  · rw [exec_eq_finish i s hr] at h
    exact collidedState_of_finish (fun _ => bodyOf_error_ne_collision) h
  · obtain ⟨r, hx⟩ := exec_refused i s hr
    cases hx.symm.trans h

theorem collidedState_of_microStep {s t : State} (h : microStep s = .fault (.raised .collision t)) :
    CollidedState t := collidedState_of_finish (fun _ => microStepBody_error_ne_collision) h

/-- Where an agent has no step, the machine says so, and raises no fault of R341. -/
theorem agentFetch_none {a : Agent} {s : State} {f : Fault} (h : agentFetch a s = .none f) : f = .noAgentStep := by
  cases a
  case clock => cases h
  case handler k =>
    simp only [agentFetch] at h
    split at h <;> cases h
    rfl
  case env w =>
    simp only [agentFetch, envFetch] at h
    split at h
    · cases h
    · split at h <;> cases h
      rfl
  case main =>
    simp only [agentFetch, mainFetch] at h
    split at h
    · split at h
      · cases h
        rfl
      · simp only [acceptWord] at h
        split at h
        · cases h
        · split_ifs at h
    · cases h

theorem fetchNext_none {s : State} {f : Fault} (h : fetchNext s = .none f) : f = .quiescent ∨ f = .noAgentStep := by
  unfold fetchNext at h
  split at h
  · cases h
    exact .inl rfl
  · split at h
    · cases h
    · exact .inr (agentFetch_none h)

/-- All the steps that raise a fault of R341. -/
theorem step_raised {s t : State} {c : FaultCode} (h : step s = .fault (.raised c t)) :
    (∃ i u, fetchNext s = .run i u ∧ exec i u = .fault (.raised c t)) ∨
      ∃ u, fetchNext s = .micro u ∧ microStep u = .fault (.raised c t) := by
  unfold step at h
  split at h
  · rename_i i u hf
    exact .inl ⟨i, u, hf, h⟩
  · rename_i u hf
    exact .inr ⟨u, hf, h⟩
  · cases h
  · rename_i hf
    cases h
    rcases fetchNext_none hf with hf | hf <;> cases hf

/-! ### The step -/

theorem settled_of_exec {i : Instr} {s t : State} (h : exec i s = .next t) : Settled t := by
  obtain ⟨-, u, -, hc, rfl⟩ := exec_next h
  exact settled_settleEdge hc

theorem settled_of_microStep {s t : State} (h : microStep s = .next t) : Settled t := by
  obtain ⟨u, -, hc, rfl⟩ := finish_next.mp h
  exact settled_settleEdge hc

/-- Settles O55: every step ends in `settle`, and what its body left in the edge detector decides what `settle` latches. -/
theorem everyCompletedStepIsSettled : Obligations.EveryCompletedStepIsSettled := by
  refine ⟨fun s t h => ?settled, fun s t h => ?collided, fun i s t h => ?command, fun s t h => ?microStep⟩
  case settled =>
    rcases step_next h with ⟨i, u, -, hx⟩ | ⟨u, -, hx⟩
    · exact settled_of_exec hx
    · exact settled_of_microStep hx
  case collided =>
    rcases step_raised h with ⟨i, u, -, hx⟩ | ⟨u, -, hx⟩
    · exact collidedState_of_exec hx
    · exact collidedState_of_microStep hx
  case command =>
    obtain ⟨-, u, hu, -, rfl⟩ := exec_next h
    rcases bodyOf_edge hu with hkeep | ⟨hmay, hsampled⟩
    · exact ⟨fun _ _ _ _ => settleEdge_flag_of_ne hkeep, settleEdge_flag_of_eq hkeep⟩
    · refine ⟨fun harm hinit hovf hreset => ?_, fun _ hf => ?_⟩
      · rcases hmay with hi | hi | hi | hi
        exacts [absurd hi harm, absurd hi hinit, absurd hi hovf, absurd hi hreset]
      · rw [settleEdge_flag_of_sampled hsampled] at hf
        cases hf
  case microStep =>
    obtain ⟨u, hu, -, rfl⟩ := finish_next.mp h
    have hkeep := microStepBody_edge hu
    exact ⟨settleEdge_flag_of_ne hkeep, settleEdge_flag_of_eq hkeep⟩

end Sys2Proof.Proofs
end

section
/-! PROOFS. The shift register's commands, the time step and the overflow handler: what each writes and leaves alone
(44_transport.md R231 to R244, 45_bit_clock.md R276). -/

namespace Sys2Proof.Proofs

open Sys2Proof.Machine Sys2Proof.Laws Sys2Proof.Claims

/-! ### Frames -/

/-- What two updates in turn leave alone is what both leave alone. -/
theorem onlyChanges_trans {ps qs : List Part} {s t u : State} (h : OnlyChanges ps s t) (h' : OnlyChanges qs t u) :
    OnlyChanges (ps ++ qs) s u := by
  intro p hp
  rw [List.mem_append, not_or] at hp
  have hst := h p hp.1
  have htu := h' p hp.2
  cases p
  all_goals exact Eq.trans htu hst

/-- The parts of the shift register (10_state.md R47 to R53). -/
def shiftParts : List Part := [.sr, .cnt, .srMode, .srClk, .srOvfIe, .srOvfFlag]

/-- The parts of the timer (10_state.md R43 to R46). -/
def timerParts : List Part := [.tcnt, .timerRun, .timerOvfIe, .timerOvfFlag]

/-- The parts of `STATUS` (10_state.md R31 to R34). -/
def statusParts : List Part := [.txFromBufferActive, .txHalfFrameActive, .rxPackageActive, .rxOverflow]

/-- An update of the shift register changes what differs in it. -/
theorem onlyChanges_setShift {parts : List Part} {s : State} {sh : ShiftReg}
    (h : ∀ p ∈ shiftParts, p ∉ parts → Unchanged s { s with shift := sh } p) :
    OnlyChanges parts s { s with shift := sh } := by
  intro p hp
  cases p
  case sr | cnt | srMode | srClk | srOvfIe | srOvfFlag => exact h _ (by simp [shiftParts]) hp
  all_goals rfl

/-- An update of the timer changes what differs in it. -/
theorem onlyChanges_setTimer {parts : List Part} {s : State} {tm : Timer}
    (h : ∀ p ∈ timerParts, p ∉ parts → Unchanged s { s with timer := tm } p) :
    OnlyChanges parts s { s with timer := tm } := by
  intro p hp
  cases p
  case tcnt | timerRun | timerOvfIe | timerOvfFlag => exact h _ (by simp [timerParts]) hp
  all_goals rfl

/-- An update of `STATUS` changes what differs in it. -/
theorem onlyChanges_setStatus {parts : List Part} {s : State} {st : Status}
    (h : ∀ p ∈ statusParts, p ∉ parts → Unchanged s { s with status := st } p) :
    OnlyChanges parts s { s with status := st } := by
  intro p hp
  cases p
  case txFromBufferActive | txHalfFrameActive | rxPackageActive | rxOverflow =>
    exact h _ (by simp [statusParts]) hp
  all_goals rfl

theorem onlyChanges_setInflight (s : State) (v : Byte) : OnlyChanges [.inflight] s { s with inflight := v } := by
  intro p hp
  cases p
  case inflight => exact absurd hp (by simp)
  all_goals rfl

theorem onlyChanges_srConfigure (m : SrMode) (k : ClkSource) (s : State) :
    OnlyChanges [.srMode, .srClk] s (srConfigure m k s) :=
  onlyChanges_setShift (by simp [shiftParts, Unchanged])

theorem onlyChanges_srSetSeed (n : Nibble) (s : State) : OnlyChanges [.cnt] s (srSetSeed n s) :=
  onlyChanges_setShift (by simp [shiftParts, Unchanged])

theorem onlyChanges_srWriteData (v : Byte) (s : State) : OnlyChanges [.sr] s (srWriteData v s) :=
  onlyChanges_setShift (by simp [shiftParts, Unchanged])

theorem onlyChanges_srEnableOvfIrq (e : Bool) (s : State) : OnlyChanges [.srOvfIe] s (srEnableOvfIrq e s) :=
  onlyChanges_setShift (by simp [shiftParts, Unchanged])

theorem onlyChanges_srClearFlag (s : State) : OnlyChanges [.srOvfFlag] s (srClearFlag s) :=
  onlyChanges_setShift (by simp [shiftParts, Unchanged])

theorem onlyChanges_timerStop (s : State) :
    OnlyChanges [.timerRun, .timerOvfIe, .timerOvfFlag] s (timerStop s) :=
  onlyChanges_setTimer (by simp [timerParts, Unchanged])

/-! ### The shift register's commands -/

/-- An operation that leaves the mode and the far end's level alone leaves the block driving, or not, as it was. -/
theorem collides_congr {s u : State} (hmode : u.shift.mode = s.shift.mode) (hext : u.extLevel = s.extLevel) :
    u.collides = s.collides := by
  rw [State.collides, State.collides, hmode, hext]

/-- A far end at 1, or a block that does not drive, is no collision (60_exceptions.md R342). -/
theorem collides_eq_false_iff {s : State} : s.collides = false ↔ s.shift.mode ≠ .output ∨ s.extLevel = true := by
  rw [← Bool.not_eq_true, collides_iff, not_and_or, Bool.not_eq_false]

theorem srConfigure_line (m : SrMode) (k : ClkSource) (s : State) :
    (srConfigure m k s).line = if m = .output then s.shift.sr.getLsbD 7 else s.extLevel := rfl

/-- CLK = TIMER is never refused with a legal mode (R231). -/
theorem exec_srConfigure_timerOvf {m : SrMode} (hm : m ≠ .reserved) (s : State) :
    exec (.srConfigure m .timerOvf) s = finish s (.ok (srConfigure m .timerOvf s)) :=
  exec_eq_finish _ s (by simp [refusedForm, hm])

/-- CLK = TOGGLE is refused (R231). -/
theorem exec_srConfigure_toggle {m : SrMode} (hm : m ≠ .reserved) (s : State) :
    exec (.srConfigure m .toggle) s = refuse .unmodelledClockSource s := by
  rw [exec, execSrConfigure, if_neg hm, if_pos rfl]

/-- Settles O22: the command writes mode and clock, and `settle` then sees the line of the new mode, or the collision. -/
theorem srConfigureSetsModeAndClock : Obligations.SrConfigureSetsModeAndClock := by
  refine ⟨rfl, rfl, rfl, rfl, rfl, rfl, fun s mode hmode => ⟨fun hfree => ?sets, fun hout hext => ?collides, ?toggle⟩⟩
  case sets =>
    exact completes_of_finish_ok (exec_srConfigure_timerOvf hmode s) (collides_eq_false_iff.mpr hfree) rfl
      ⟨rfl, rfl, srConfigure_line mode .timerOvf s⟩ (onlyChanges_srConfigure mode .timerOvf s)
  case collides =>
    have hc : (srConfigure mode .timerOvf s).collides = true := collides_iff.mpr ⟨hout, hext⟩
    exact collidesAfter_of_finish_ok (exec_srConfigure_timerOvf hmode s) hc rfl ⟨hout, rfl⟩
      (onlyChanges_mono (by simp) (onlyChanges_srConfigure mode .timerOvf s))
  case toggle => exact exec_srConfigure_toggle hmode s

/-- A seed's word has the seed as its operand byte (30_encoding.md R115). -/
theorem decode_srSetSeedWord (n : Nibble) : decode (byteWord 0x31 (n.setWidth 8)) = .instr (.srSetSeed n) := by
  revert n; decide

theorem decode_srEnableOvfIrqWord (e : Bool) :
    decode (byteWord 0x34 (BitVec.zeroExtend 8 (BitVec.ofBool e))) = .instr (.srEnableOvfIrq e) := by
  cases e <;> rfl

/-- Settles O23: each primitive writes its field, and `settle` follows. -/
theorem shiftRegisterPrimitives : Obligations.ShiftRegisterPrimitives := by
  intro s hc
  refine ⟨fun n => ⟨decode_srSetSeedWord n, ?seed⟩, ⟨rfl, ?read⟩, fun v => ⟨decode_wordOf 0x3 0x3 v, ?write⟩,
    fun e => ⟨decode_srEnableOvfIrqWord e, ?enable⟩, rfl, ?clear⟩
  case seed =>
    exact completes_of_finish_ok (exec_eq_finish (.srSetSeed n) s rfl) hc rfl rfl (onlyChanges_srSetSeed n s)
  case read =>
    exact completes_of_finish_ok (exec_eq_finish .srReadData s rfl) hc rfl rfl
      (onlyChanges_deliver (onlyChanges_refl [] s) _)
  case write =>
    exact completes_of_finish_ok (exec_eq_finish (.srWriteData v) s rfl) hc rfl ⟨rfl, fun hout => if_pos hout⟩
      (onlyChanges_srWriteData v s)
  case enable =>
    refine completes_of_finish_ok (exec_eq_finish (.srEnableOvfIrq e) s rfl) hc rfl ⟨rfl, fun he hgie hflag => ?_⟩
      (onlyChanges_srEnableOvfIrq e s)
    simp [State.handlerEnabled, State.interruptEnable, State.pending, he, hgie, hflag]
  case clear =>
    exact completes_of_finish_ok (exec_eq_finish .srClearFlag s rfl) hc rfl rfl (onlyChanges_srClearFlag s)

/-! ### `TIME_STEP` -/

/-- The count after its increment from 255 to 0, before the shift register's part of the tick (R276). -/
def wrapped (s : State) : State := { s with timer := { s.timer with tcnt := 0, ovfFlag := true } }

theorem countStep_of_stopped {s : State} (h : s.timer.run = false) : countStep s = s := by simp [countStep, h]

theorem countStep_of_counting {s : State} (h : s.timer.run = true) (h255 : s.timer.tcnt ≠ 255) :
    countStep s = { s with timer := { s.timer with tcnt := s.timer.tcnt + 1 } } := by
  rw [countStep, if_pos h, if_neg h255]

/-- The increment from 255 to 0 is the tick (R276). -/
theorem countStep_of_wrapping {s : State} (h : s.timer.run = true) (h255 : s.timer.tcnt = 255) :
    countStep s = shiftTick (wrapped s) := by
  rw [countStep, if_pos h, if_pos h255, wrapped]

/-- A count below 255 goes up by one without a carry. -/
theorem toNat_add_one {n : Byte} (h : n ≠ 255) : (n + 1).toNat = n.toNat + 1 := by
  bv_omega

@[simp] theorem countStep_mode (s : State) : (countStep s).shift.mode = s.shift.mode := by
  obtain ⟨tm, sh, hcs, -, -, hmode, -⟩ := countStep_shape s
  rw [hcs, hmode]

theorem countStep_collides (s : State) : (countStep s).collides = s.collides :=
  collides_congr (countStep_mode s) (countStep_extLevel s)

theorem shiftTick_of_not_clocked {s : State} (h : ¬ Clocked s) : shiftTick s = s := if_neg h

theorem onlyChanges_later (n : Nat) (s : State) : OnlyChanges [.time] s (later n s) := by
  intro p hp
  cases p
  case time => exact absurd hp (by simp)
  all_goals rfl

theorem onlyChanges_wrapped (s : State) : OnlyChanges [.tcnt, .timerOvfFlag] s (wrapped s) :=
  onlyChanges_setTimer (by simp [timerParts, Unchanged])

theorem onlyChanges_shiftTick (s : State) : OnlyChanges [.sr, .cnt, .srOvfFlag] s (shiftTick s) := by
  unfold shiftTick
  split
  · exact onlyChanges_setShift (by simp [shiftParts, Unchanged])
  · exact onlyChanges_refl _ s

theorem exec_timeStep (s : State) : exec .timeStep s = finish s (.ok (countStep (later 1 s))) :=
  exec_eq_finish .timeStep s rfl

/-- A time step completes in what its count makes: it writes the ghost time, and leaves the edge detector to `settle`. -/
theorem completes_timeStep {s u : State} {parts : List Part} {post : State → Prop} (hc : s.collides = false)
    (hu : countStep (later 1 s) = u) (hpost : post u.settleEdge) (hframe : OnlyChanges parts (later 1 s) u) :
    Completes .timeStep s (.time :: parts) post := by
  subst hu
  exact completes_of_finish_ok (exec_timeStep s) ((countStep_collides _).trans hc) (countStep_edge _) hpost
    (onlyChanges_trans (onlyChanges_later 1 s) hframe)

/-- Settles O26: the stopped timer, a count, and the wrap without and with the shift register's part of the tick. -/
theorem timeStepCountsAndTicks : Obligations.TimeStepCountsAndTicks := by
  refine ⟨rfl, fun s hc => ⟨fun hrun => ?stopped, fun hrun h255 => ?counts, fun hrun h255 hidle => ?wraps,
    fun hrun h255 hmode hclk => ?ticks⟩⟩
  case stopped => exact completes_timeStep hc (countStep_of_stopped hrun) rfl (onlyChanges_refl [] _)
  case counts =>
    exact completes_timeStep hc (countStep_of_counting hrun h255) ⟨rfl, toNat_add_one h255⟩
      (onlyChanges_setTimer (by simp [timerParts, Unchanged]))
  case wraps =>
    have hnot : ¬ Clocked (wrapped (later 1 s)) := by
      rintro ⟨hmode, hclk⟩
      exact hidle.elim hmode fun htoggle => ClkSource.noConfusion (htoggle.symm.trans hclk)
    exact completes_timeStep hc ((countStep_of_wrapping (s := later 1 s) hrun h255).trans (shiftTick_of_not_clocked hnot))
      ⟨rfl, rfl, rfl⟩ (onlyChanges_wrapped _)
  case ticks =>
    have hclocked : Clocked (wrapped (later 1 s)) := ⟨hmode, hclk⟩
    refine completes_timeStep hc (countStep_of_wrapping hrun h255) ⟨?_, ?_, ?_, ?_, fun k hk => ?_, ?_, ?_⟩
      (onlyChanges_trans (onlyChanges_wrapped _) (onlyChanges_shiftTick _))
    · exact shiftTick_time _
    · exact congrArg Timer.tcnt (shiftTick_timer _)
    · exact congrArg Timer.ovfFlag (shiftTick_timer _)
    · exact shiftTick_getLsbD hclocked (by decide)
    · exact shiftTick_getLsbD hclocked (by omega)
    · exact shiftTick_cnt_toNat hclocked
    · refine (shiftTick_ovfFlag hclocked).trans (congrArg (s.shift.ovfFlag || ·) (decide_eq_decide.mpr ?_))
      exact BitVec.toNat_inj (y := 15)

/-! ### `ISR_SR_OVF` -/

/-- The overflow handler's entry clears its flag alone (60_exceptions.md R348). -/
theorem onlyChanges_enterHandler_srOvf (s : State) : OnlyChanges [.srOvfFlag] s (s.enterHandler .srOvf) :=
  onlyChanges_srClearFlag s

/-- The handler's step, once its dispatch has chosen a branch (R240). -/
theorem exec_isrSrOvf {s : State} {body : Except FaultCode State} (h : isrSrOvfBody (s.enterHandler .srOvf) = body) :
    exec .isrSrOvf s = finish s body := h ▸ exec_eq_finish .isrSrOvf s rfl

theorem isrSrOvfBody_of_secondHalf {s : State} (htx : s.status.txFromBufferActive = true)
    (hhalf : s.status.txHalfFrameActive = true) : isrSrOvfBody s = .ok (loadSecondHalf s) := by
  rw [isrSrOvfBody, if_pos htx, if_pos hhalf]

theorem isrSrOvfBody_of_lastByte {s : State} (htx : s.status.txFromBufferActive = true)
    (hhalf : s.status.txHalfFrameActive = false) (hempty : s.isEmpty .tx = true) :
    isrSrOvfBody s = .ok (endTransmission s) := by
  simp [isrSrOvfBody, htx, hhalf, hempty]

theorem isrSrOvfBody_of_nextByte {s : State} (htx : s.status.txFromBufferActive = true)
    (hhalf : s.status.txHalfFrameActive = false) (hheld : s.isEmpty .tx = false) :
    isrSrOvfBody s = loadNextByte s := by
  simp [isrSrOvfBody, htx, hhalf, hheld]

theorem isrSrOvfBody_of_receiving {s : State} (htx : s.status.txFromBufferActive = false)
    (hrx : s.status.rxPackageActive = true) : isrSrOvfBody s = storeReceived s := by
  simp [isrSrOvfBody, htx, hrx]

theorem isrSrOvfBody_of_idle {s : State} (h : s.inTransfer = false) : isrSrOvfBody s = .error .spuriousSrOvf := by
  obtain ⟨htx, hrx⟩ := inTransfer_eq_false_iff.mp h
  simp [isrSrOvfBody, htx, hrx]

/-- Settles O37: the dispatch's last branch. -/
theorem overflowWithoutATransferFaults : Obligations.OverflowWithoutATransferFaults :=
  ⟨rfl, fun s h => faultsOnly_of_finish_error
    (exec_isrSrOvf (isrSrOvfBody_of_idle (s := s.enterHandler .srOvf) h))⟩

/-! ### `ISR_SR_OVF` while transmitting -/

theorem onlyChanges_loadSecondHalf (s : State) : OnlyChanges [.txHalfFrameActive, .sr, .cnt] s (loadSecondHalf s) :=
  onlyChanges_trans
    (onlyChanges_trans (ps := [.txHalfFrameActive]) (onlyChanges_setStatus (by simp [statusParts, Unchanged]))
      (onlyChanges_srWriteData _ _))
    (onlyChanges_srSetSeed _ _)

/-- Settles O33: the branch of the second half-frame (R241). -/
theorem overflowLoadsTheSecondHalfFrame : Obligations.OverflowLoadsTheSecondHalfFrame := by
  intro s htx hhalf hc
  exact completes_of_finish_ok (exec_isrSrOvf (isrSrOvfBody_of_secondHalf htx hhalf)) hc rfl ⟨rfl, rfl, rfl, rfl⟩
    (onlyChanges_trans (onlyChanges_enterHandler_srOvf s) (onlyChanges_loadSecondHalf _))

/-- The state after the branch that dequeues the next byte, before `settle` (R242). -/
def nextByteLoaded (s : State) : State :=
  srSetSeed seedTx (srWriteData (halfFrame1 (s.slot .tx (s.nextIndex .tx s.tx.tail)))
    { popped .tx s with
      inflight := s.slot .tx (s.nextIndex .tx s.tx.tail)
      status := { s.status with txHalfFrameActive := true } })

theorem loadNextByte_of_held {s : State} (hv : s.cfg.valid = true) (h : s.isEmpty .tx = false) :
    loadNextByte s = .ok (nextByteLoaded s) := by
  rcases rbPop_cases hv .tx with ⟨hempty, -⟩ | ⟨-, hp⟩
  · rw [h] at hempty; cases hempty
  · rw [loadNextByte, hp]; rfl

theorem onlyChanges_nextByteLoaded (s : State) :
    OnlyChanges ([.tail .tx] ++ [.inflight] ++ [.txHalfFrameActive] ++ [.sr] ++ [.cnt]) s (nextByteLoaded s) := by
  refine onlyChanges_trans (onlyChanges_trans (onlyChanges_trans (onlyChanges_trans (onlyChanges_popped .tx s)
    (onlyChanges_setInflight _ _)) (onlyChanges_setStatus ?_)) (onlyChanges_srWriteData _ _)) (onlyChanges_srSetSeed _ _)
  simp [statusParts, Unchanged, popped]

/-- Settles O34: the branch of the next byte, which is loaded as the ring holds it (R242). -/
theorem overflowLoadsTheNextByte : Obligations.OverflowLoadsTheNextByte := by
  intro s hv htx hhalf hheld hc
  have he : s.isEmpty .tx = false := Bool.eq_false_iff.mpr (mt isEmpty_iff.mp hheld)
  have hbody := (isrSrOvfBody_of_nextByte (s := s.enterHandler .srOvf) htx hhalf he).trans (loadNextByte_of_held hv he)
  exact completes_of_finish_ok (exec_isrSrOvf hbody) hc rfl ⟨rfl, rfl, rfl, rfl, rfl, rfl⟩
    (onlyChanges_mono (by simp) (onlyChanges_trans (onlyChanges_enterHandler_srOvf s) (onlyChanges_nextByteLoaded _)))

/-! ### The end of a transfer -/

/-- The parts `RELEASE_AND_ARM` writes (43_line_arbiter.md R211). -/
def releaseParts : List Part :=
  [.timerRun, .timerOvfIe, .timerOvfFlag, .srMode, .srClk, .srOvfIe, .srOvfFlag, .edgeIe, .edgeFlag, .lastLevel]

theorem onlyChanges_releaseAndArm (s : State) : OnlyChanges releaseParts s (releaseAndArm s) :=
  onlyChanges_trans (onlyChanges_trans (onlyChanges_trans (onlyChanges_trans (onlyChanges_timerStop s)
    (onlyChanges_srConfigure _ _ _)) (onlyChanges_srEnableOvfIrq _ _)) (onlyChanges_srClearFlag _))
    (onlyChanges_edgeArm _)

/-- The released line has just been sampled, so `settle` adds nothing (43_line_arbiter.md R205, R211). -/
theorem settle_releaseAndArm (s : State) : settle (releaseAndArm s) = .next (releaseAndArm s) := by
  have hc : (releaseAndArm s).collides = false := by simp [State.collides]
  have hline : (releaseAndArm s).line = (releaseAndArm s).edge.lastLevel := by simp [State.line]
  rw [settle_of_not_collides hc, settleEdge_eq_self hline]

/-- A handler's step that ends with `RELEASE_AND_ARM` completes in the released state. -/
theorem exec_isrSrOvf_of_release {s u : State} (h : isrSrOvfBody (s.enterHandler .srOvf) = .ok (releaseAndArm u)) :
    exec .isrSrOvf s = .next (releaseAndArm u) :=
  (exec_isrSrOvf h).trans (settle_releaseAndArm u)

theorem onlyChanges_endTransmission (s : State) :
    OnlyChanges (.txFromBufferActive :: releaseParts) s (endTransmission s) :=
  onlyChanges_trans (ps := [.txFromBufferActive]) (onlyChanges_setStatus (by simp [statusParts, Unchanged]))
    (onlyChanges_releaseAndArm _)

/-- Settles O35: the branch with nothing left to send (R243). -/
theorem overflowEndsTheTransmission : Obligations.OverflowEndsTheTransmission := by
  intro s htx hhalf hempty
  have hbody := isrSrOvfBody_of_lastByte (s := s.enterHandler .srOvf) htx hhalf (isEmpty_iff.mpr hempty)
  refine ⟨_, exec_isrSrOvf_of_release hbody, ?_, ?_, ?_, ?_, ?_, ?_, ?_, ?_, ?_, ?_, ?_, onlyChanges_mono ?parts
    (onlyChanges_trans (onlyChanges_enterHandler_srOvf s) (onlyChanges_endTransmission _))⟩
  case parts => simp [releaseParts]
  all_goals simp

/-! ### `ISR_SR_OVF` while receiving -/

/-- The reception is over: its flag is clear (R244). -/
def receptionEnded (s : State) : State := { s with status := { s.status with rxPackageActive := false } }

/-- The captured register finds no room and is discarded (R244). -/
def overflowLatched (s : State) : State := { s with status := { s.status with rxOverflow := true } }

theorem onlyChanges_receptionEnded (s : State) : OnlyChanges [.rxPackageActive] s (receptionEnded s) :=
  onlyChanges_setStatus (by simp [statusParts, Unchanged])

theorem onlyChanges_overflowLatched (s : State) : OnlyChanges [.rxOverflow] s (overflowLatched s) :=
  onlyChanges_setStatus (by simp [statusParts, Unchanged])

theorem storeReceived_of_room {s : State} (hv : s.cfg.valid = true) (h : s.isFull .rx = false) :
    storeReceived s = .ok (releaseAndArm (pushed .rx s.shift.sr (receptionEnded s))) := by
  rcases rbPush_cases (s := receptionEnded s) hv .rx s.shift.sr with ⟨hfull, -⟩ | ⟨-, hp⟩
  · cases h.symm.trans hfull
  · unfold receptionEnded at hp
    rw [storeReceived, hp]
    rfl

theorem storeReceived_of_full {s : State} (hv : s.cfg.valid = true) (h : s.isFull .rx = true) :
    storeReceived s = .ok (releaseAndArm (overflowLatched (receptionEnded s))) := by
  rcases rbPush_cases (s := receptionEnded s) hv .rx s.shift.sr with ⟨-, hp⟩ | ⟨hroom, -⟩
  · unfold receptionEnded at hp
    rw [storeReceived, hp]
    rfl
  · cases h.symm.trans hroom

/-- Settles O36: the branch of the receiver, with room and without (R244). -/
theorem overflowStoresOrDiscardsTheReceivedByte : Obligations.OverflowStoresOrDiscardsTheReceivedByte := by
  intro s hv htx hrx tmp
  have hbody := isrSrOvfBody_of_receiving (s := s.enterHandler .srOvf) htx hrx
  have hended := onlyChanges_trans (onlyChanges_enterHandler_srOvf s) (onlyChanges_receptionEnded _)
  cases hfull : s.isFull .rx
  case false =>
    have hne : tmp ≠ s.rx.tail := fun h => Bool.false_ne_true (hfull.symm.trans (isFull_iff.mpr h))
    have hpushed : OnlyChanges [.head .rx, .slot .rx tmp] _ _ :=
      onlyChanges_pushed .rx s.shift.sr (receptionEnded (s.enterHandler .srOvf))
    refine ⟨_, exec_isrSrOvf_of_release (hbody.trans (storeReceived_of_room hv hfull)), ?_, ?_, ?_, ?_, ?_, ?_, ?_, ?_,
      ?_, ?_, ?_, fun _ => ⟨?slot, ?_, onlyChanges_mono ?parts (onlyChanges_trans (onlyChanges_trans hended hpushed)
        (onlyChanges_releaseAndArm _))⟩, fun h => absurd h hne⟩
    case slot =>
      rw [onlyChanges_releaseAndArm _ (.slot .rx tmp) (by simp [releaseParts]), slot_pushed]
      exact if_pos rfl
    case parts => simp [releaseParts]
    all_goals simp [pushed, receptionEnded, State.nextIndex, tmp]
  case true =>
    have heq : tmp = s.rx.tail := isFull_iff.mp hfull
    refine ⟨_, exec_isrSrOvf_of_release (hbody.trans (storeReceived_of_full hv hfull)), ?_, ?_, ?_, ?_, ?_, ?_, ?_, ?_,
      ?_, ?_, ?_, fun h => absurd heq h, fun _ => ⟨?_, onlyChanges_mono ?parts (onlyChanges_trans (onlyChanges_trans
        hended (onlyChanges_overflowLatched _)) (onlyChanges_releaseAndArm _))⟩⟩
    case parts => simp [releaseParts]
    all_goals simp [overflowLatched, receptionEnded]

end Sys2Proof.Proofs
end

section
/-! PROOFS. A transmitted byte is its wire frame on the line (44_transport.md R245, 70_reset_and_hazards.md R406): the run of
one byte is three bursts of bit periods, each followed by the overflow handler's step that loads what comes next. -/

namespace Sys2Proof.Proofs

open Sys2Proof.Machine Sys2Proof.Laws Sys2Proof.Safety Sys2Proof.Claims

/-! ### Runs -/

/-- `n` steps lead from `s` to `t`, each completes, and `good` holds after each. -/
inductive RunsThrough (good : State → Prop) : Nat → State → State → Prop
  | refl (s : State) : RunsThrough good 0 s s
  | head {n : Nat} {s t u : State} (hstep : step s = .next t) (hgood : good t) (hrest : RunsThrough good n t u) :
      RunsThrough good (n + 1) s u

theorem RunsThrough.trans {good : State → Prop} {m n : Nat} {s t u : State} (h : RunsThrough good m s t)
    (h' : RunsThrough good n t u) : RunsThrough good (m + n) s u := by
  induction h with
  | refl => rwa [Nat.zero_add]
  | head hstep hgood _ ih =>
    rw [Nat.add_right_comm]
    exact .head hstep hgood (ih h')

theorem RunsThrough.snoc {good : State → Prop} {n : Nat} {s t u : State} (h : RunsThrough good n s t)
    (hstep : step t = .next u) (hgood : good u) : RunsThrough good (n + 1) s u :=
  h.trans (.head hstep hgood (.refl u))

theorem core_run_succ {M : Host.Core} {s t : M.State} (h : M.step s = .next t) (n : Nat) :
    M.run (n + 1) s = M.run n t := by
  rw [Host.Core.run, h]

theorem RunsThrough.run {good : State → Prop} {n : Nat} {s t : State} (h : RunsThrough good n s t) :
    Sys2Proof.core.run n s = .next t := by
  induction h with
  | refl s => rfl
  | head hstep _ _ ih => exact (core_run_succ hstep _).trans ih

theorem RunsThrough.run_good {good : State → Prop} {n : Nat} {s t : State} (h : RunsThrough good n s t) :
    ∀ k, 1 ≤ k → k ≤ n → ∃ u, Sys2Proof.core.run k s = .next u ∧ good u := by
  induction h with
  | refl s =>
    intro k h1 h0
    omega
  | head hstep hgood _ ih =>
    intro k hk hkn
    obtain ⟨k, rfl⟩ := Nat.exists_eq_add_of_le' hk
    have hrun := core_run_succ (M := Sys2Proof.core) hstep k
    rw [hrun]
    cases k with
    | zero => exact ⟨_, rfl, hgood⟩
    | succ k => exact ih (k + 1) (Nat.le_add_left 1 k) (Nat.le_of_succ_le_succ hkn)

theorem RunsThrough.ringInv {good : State → Prop} {n : Nat} {s t : State} (h : RunsThrough good n s t)
    (hs : RingInv s) : RingInv t := by
  induction h with
  | refl s => exact hs
  | head hstep _ _ ih => exact ih (everyStepKeepsTheRingInvariants _ _ hs hstep)

/-! ### One scheduled step -/

theorem onlyChanges_setSched (s : State) (rest : List Agent) : OnlyChanges [.sched] s { s with sched := rest } := by
  intro p hp
  cases p
  case sched => exact absurd hp (by simp)
  all_goals rfl

theorem step_clock {s : State} {rest : List Agent} (hq : s.quiescent = false) (hs : s.sched = .clock :: rest) :
    step s = exec .timeStep { s with sched := rest } :=
  step_of_fetchNext_run (by simp [fetchNext, hq, hs, agentFetch])

theorem step_handler {s : State} {k : Irq} {rest : List Agent} (hq : s.quiescent = false)
    (hs : s.sched = .handler k :: rest) (ht : s.handlerTakeable k = true) :
    step s = exec k.instr { s with sched := rest } := by
  have ht' : State.handlerTakeable { s with sched := rest } k = true := ht
  exact step_of_fetchNext_run (by simp [fetchNext, hq, hs, agentFetch, ht'])

theorem step_micro {s : State} {rest : List Agent} (hq : s.quiescent = false) (hs : s.sched = .main :: rest)
    (hpc : s.mainPc ≠ .ready) : step s = microStep { s with sched := rest } := by
  simp [step, fetchNext, hq, hs, agentFetch, mainFetch, hpc]

/-- The step of a scheduled agent, from what its command completes with. -/
theorem next_of_completes {s : State} {rest : List Agent} {i : Instr} {parts : List Part} {post : State → Prop}
    (hstep : step s = exec i { s with sched := rest }) (h : Completes i { s with sched := rest } parts post)
    (hparts : .sched ∉ parts) :
    ∃ t, step s = .next t ∧ t.sched = rest ∧ post t ∧ OnlyChanges (.sched :: .edgeFlag :: .lastLevel :: parts) s t := by
  obtain ⟨t, hx, hpost, hframe, -⟩ := h
  exact ⟨t, hstep.trans hx, hframe .sched (by simpa using hparts), hpost,
    onlyChanges_trans (onlyChanges_setSched s rest) hframe⟩

/-- The timer handler adds the steady reload and clears its flag (45_bit_clock.md R275). -/
theorem completes_isrTimerOvf {s : State} (hc : s.collides = false) :
    Completes .isrTimerOvf s [.tcnt, .timerOvfFlag] fun t =>
      t.timer.ovfFlag = false ∧ t.timer.tcnt = s.timer.tcnt + s.cfg.reloadSteady :=
  completes_of_finish_ok (exec_eq_finish .isrTimerOvf s rfl) hc rfl ⟨rfl, rfl⟩
    (onlyChanges_setTimer (by simp [timerParts, Unchanged]))

/-! ### What a frame keeps -/

theorem onlyChanges_trans_same {parts : List Part} {s t u : State} (h : OnlyChanges parts s t)
    (h' : OnlyChanges parts t u) : OnlyChanges parts s u :=
  onlyChanges_mono (by simp) (onlyChanges_trans h h')

/-- In OUTPUT mode the line is bit 7 of the register (10_state.md R52). -/
theorem line_of_output {s : State} (h : s.shift.mode = .output) : s.line = s.shift.sr.getLsbD 7 := if_pos h

/-- A frame without a part of the shift register keeps it whole. -/
theorem shift_eq_of_onlyChanges {parts : List Part} {s t : State} (h : OnlyChanges parts s t)
    (hparts : ∀ p ∈ shiftParts, p ∉ parts) : t.shift = s.shift := by
  have hkeep : ∀ p ∈ shiftParts, Unchanged s t p := fun p hp => h p (hparts p hp)
  simp only [shiftParts, List.forall_mem_cons, Unchanged] at hkeep
  obtain ⟨hsr, hcnt, hmode, hclk, hie, hflag, -⟩ := hkeep
  cases hs : s.shift
  cases ht : t.shift
  simp_all

/-- A burst's ticks are seen in the shift register alone. -/
theorem Ticked.congr {n : Nat} {s t s' t' : State} (h : Ticked n s t) (hs : s'.shift = s.shift)
    (ht : t'.shift = t.shift) : Ticked n s' t' := by
  obtain ⟨hmode, hclk, hcnt, hflag, hbits⟩ := h
  constructor
  all_goals rw [hs, ht]
  all_goals assumption

/-- Two bursts in turn are one burst. -/
theorem Ticked.trans {m n : Nat} {s t u : State} (h : Ticked m s t) (h' : Ticked n t u) : Ticked (m + n) s u := by
  constructor
  case mode => exact h'.mode.trans h.mode
  case clk => exact h'.clk.trans h.clk
  case cnt => rw [h'.cnt, h.cnt, Nat.mod_add_mod, Nat.add_assoc]
  case ovfFlag =>
    have hlt := s.shift.cnt.isLt
    have hwrap : 16 ≤ s.shift.cnt.toNat + (m + n) ↔
        16 ≤ s.shift.cnt.toNat + m ∨ 16 ≤ (s.shift.cnt.toNat + m) % 16 + n := by omega
    rw [h'.ovfFlag, h.ovfFlag, h.cnt, decide_eq_decide.mpr hwrap, Bool.decide_or, Bool.or_assoc]
  case shifted =>
    intro i hi hi8
    have hsub : i - n - m = i - (m + n) := by omega
    rw [h'.shifted i (by omega) hi8, h.shifted (i - n) (by omega) (by omega), hsub]

theorem quiescent_congr {s t : State} (hfaults : t.faults = s.faults) (hrefused : t.refused = s.refused) :
    t.quiescent = s.quiescent := by
  rw [State.quiescent, State.quiescent, hfaults, hrefused]

/-- The parts a transmission's steps write, from its start to its end. -/
def drivingParts : List Part :=
  [.sched, .edgeFlag, .lastLevel, .time, .tcnt, .timerOvfFlag, .sr, .cnt, .srOvfFlag, .txHalfFrameActive, .inflight,
    .tail .tx]

/-- The block drives the line: it transmits, with its interrupts on and the far end at 1 (43_line_arbiter.md R219). -/
structure Driving (s : State) : Prop where
  stepping : s.quiescent = false
  gie : s.gie = true
  farEnd : s.extLevel = true
  transmitting : s.status.txFromBufferActive = true
  notReceiving : s.status.rxPackageActive = false
  run : s.timer.run = true
  timerIe : s.timer.ovfIe = true
  mode : s.shift.mode = .output
  clk : s.shift.clk = .timerOvf
  srIe : s.shift.ovfIe = true
  unarmed : s.edge.ie = false

theorem Driving.of_onlyChanges {s t : State} (h : Driving s) (hf : OnlyChanges drivingParts s t) : Driving t := by
  constructor
  case stepping =>
    exact (quiescent_congr (hf .faults (by simp [drivingParts])) (hf .refused (by simp [drivingParts]))).trans h.stepping
  case gie => exact (hf .gie (by simp [drivingParts])).trans h.gie
  case farEnd => exact (hf .extLevel (by simp [drivingParts])).trans h.farEnd
  case transmitting => exact (hf .txFromBufferActive (by simp [drivingParts])).trans h.transmitting
  case notReceiving => exact (hf .rxPackageActive (by simp [drivingParts])).trans h.notReceiving
  case run => exact (hf .timerRun (by simp [drivingParts])).trans h.run
  case timerIe => exact (hf .timerOvfIe (by simp [drivingParts])).trans h.timerIe
  case mode => exact (hf .srMode (by simp [drivingParts])).trans h.mode
  case clk => exact (hf .srClk (by simp [drivingParts])).trans h.clk
  case srIe => exact (hf .srOvfIe (by simp [drivingParts])).trans h.srIe
  case unarmed => exact (hf .edgeIe (by simp [drivingParts])).trans h.unarmed

theorem Driving.collides {s : State} (h : Driving s) : s.collides = false :=
  collides_eq_false_iff.mpr (.inr h.farEnd)

theorem Driving.timerTakeable {s : State} (h : Driving s) (hf : s.timer.ovfFlag = true) :
    s.handlerTakeable .timerOvf = true := by
  simp [State.handlerTakeable, State.handlerEnabled, State.interruptEnable, State.pending, Irq.higher, h.gie, h.timerIe,
    h.unarmed, hf]

theorem Driving.srTakeable {s : State} (h : Driving s) (htimer : s.timer.ovfFlag = false)
    (hsr : s.shift.ovfFlag = true) : s.handlerTakeable .srOvf = true := by
  simp [State.handlerTakeable, State.handlerEnabled, State.interruptEnable, State.pending, Irq.higher, h.gie, h.srIe,
    h.unarmed, htimer, hsr]

/-! ### One bit period -/

/-- The parts that counting writes. -/
def countParts : List Part := [.sched, .edgeFlag, .lastLevel, .time, .tcnt]

/-- The parts a bit period writes. -/
def periodParts : List Part := [.sched, .edgeFlag, .lastLevel, .time, .tcnt, .timerOvfFlag, .sr, .cnt, .srOvfFlag]

theorem countParts_subset_drivingParts : countParts ⊆ drivingParts := by simp [countParts, drivingParts]

theorem periodParts_subset_drivingParts : periodParts ⊆ drivingParts := by simp [periodParts, drivingParts]

/-- Counts below the wrap pass the time and leave the line alone. -/
theorem runsThrough_counts {good : State → Prop} {rest : List Agent} (k : Nat) : ∀ {s : State}, Driving s →
    s.sched = waitCounts k ++ rest → s.timer.tcnt.toNat + k < 256 →
    (∀ u, u.line = s.line → s.time < u.time → u.time ≤ s.time + k → good u) →
    ∃ t, RunsThrough good k s t ∧ t.sched = rest ∧ OnlyChanges countParts s t ∧ t.time = s.time + k ∧
      t.timer.tcnt.toNat = s.timer.tcnt.toNat + k := by
  induction k with
  | zero => exact fun {s} _ hs _ _ => ⟨s, .refl s, hs, onlyChanges_refl _ s, rfl, rfl⟩
  | succ k ih =>
    intro s hd hs hk hgood
    have h255 : s.timer.tcnt ≠ 255 := by bv_omega
    obtain ⟨-, htime⟩ := timeStepCountsAndTicks
    obtain ⟨-, hcount, -, -⟩ := htime { s with sched := waitCounts k ++ rest } hd.collides
    obtain ⟨t, hstep, hsched, ⟨htT, htN⟩, hf⟩ :=
      next_of_completes (step_clock hd.stepping hs) (hcount hd.run h255) (by simp)
    have hdt : Driving t := hd.of_onlyChanges (onlyChanges_mono countParts_subset_drivingParts hf)
    have hline : t.line = s.line := by
      rw [line_of_output hdt.mode, line_of_output hd.mode, shift_eq_of_onlyChanges hf (by simp [shiftParts])]
    dsimp only at htT htN
    obtain ⟨u, hrun, hu, hfu, huT, huN⟩ := ih hdt hsched (by omega)
      fun v hv h1 h2 => hgood v (hv.trans hline) (by omega) (by omega)
    exact ⟨u, .head hstep (hgood t hline (by omega) (by omega)) hrun, hu, onlyChanges_trans_same hf hfu,
      by omega, by omega⟩

/-- The line's level in the `j`-th bit period after the start: two periods at 1, then the wire frame (R245). -/
def periodLevel (b : Byte) (j : Nat) : Level := if j < 2 then true else (wireFrame b).getD (j - 2) true

theorem waveformLevel_eq_periodLevel {period i : Nat} (hi : i < period) (b : Byte) (j : Nat) :
    waveformLevel period b (j * period + i) = periodLevel b j := by
  have hdiv : (j * period + i) / period = j := by
    rw [Nat.mul_comm, Nat.mul_add_div (by omega), Nat.div_eq_of_lt hi, Nat.add_zero]
  rw [waveformLevel, hdiv, periodLevel]

/-- The line shows the level of R245's table for the time since the start. -/
def OnWave (c : Config) (start : Nat) (b : Byte) (u : State) : Prop :=
  u.line = waveformLevel c.bitPeriod b (u.time - start)

theorem onWave_of_period {c : Config} {start j i : Nat} {b : Byte} {u : State} (hi : i < c.bitPeriod)
    (htime : u.time = start + j * c.bitPeriod + i) (hline : u.line = periodLevel b j) : OnWave c start b u := by
  have hsub : u.time - start = j * c.bitPeriod + i := by omega
  rw [OnWave, hsub, waveformLevel_eq_periodLevel hi, hline]

/-- The block drives the line, and its `j`-th bit period begins: the timer has just been reloaded (45_bit_clock.md R277). -/
structure PeriodStart (c : Config) (start j : Nat) (s : State) : Prop where
  driving : Driving s
  cfg : s.cfg = c
  tcnt : s.timer.tcnt = c.reloadSteady
  served : s.timer.ovfFlag = false
  time : s.time = start + j * c.bitPeriod

/-- The steady reload is one period before the wrap (00_scope.md R9, with `R_ADJ = 0`). -/
theorem reloadSteady_add_bitPeriod {c : Config} (hv : c.valid = true) (hadj : c.rAdj = 0) :
    c.reloadSteady.toNat + c.bitPeriod = 256 := by
  obtain ⟨-, -, -, -, -, hge, hle, -⟩ := valid_iff.mp hv
  have h := reloadSteady_toNat c
  omega

/-- The tick of a time step, as one tick of a burst (R236). -/
theorem next_of_tick {s : State} {rest : List Agent} (hd : Driving s) (hs : s.sched = .clock :: rest)
    (h255 : s.timer.tcnt = 255) :
    ∃ t, step s = .next t ∧ t.sched = rest ∧ OnlyChanges periodParts s t ∧ t.time = s.time + 1 ∧ t.timer.tcnt = 0 ∧
      t.timer.ovfFlag = true ∧ Ticked 1 s t := by
  obtain ⟨-, htime⟩ := timeStepCountsAndTicks
  obtain ⟨-, -, -, htick⟩ := htime { s with sched := rest } hd.collides
  obtain ⟨t, hstep, hsched, ⟨hT, htcnt, hovf, hbit0, hbits, hcnt, hsrOvf⟩, hf⟩ :=
    next_of_completes (step_clock hd.stepping hs) (htick hd.run h255 (by simp [hd.mode]) hd.clk) (by simp)
  refine ⟨t, hstep, hsched, hf, hT, htcnt, hovf, ?_⟩
  constructor
  case mode => exact hf .srMode (by simp)
  case clk => exact hf .srClk (by simp)
  case cnt => exact hcnt
  case ovfFlag =>
    refine hsrOvf.trans (congrArg (s.shift.ovfFlag || ·) (decide_eq_decide.mpr ?_))
    dsimp only
    bv_omega
  case shifted =>
    intro i h1 hi
    obtain ⟨k, rfl⟩ := Nat.exists_eq_add_of_le' h1
    exact hbits k (by omega)

/-- The timer handler's step after a tick: the count is reloaded, and the register keeps what the tick left. -/
theorem next_of_reload {s : State} {rest : List Agent} (hd : Driving s) (hs : s.sched = .handler .timerOvf :: rest)
    (h0 : s.timer.tcnt = 0) (hf : s.timer.ovfFlag = true) :
    ∃ t, step s = .next t ∧ t.sched = rest ∧ OnlyChanges periodParts s t ∧ t.time = s.time ∧
      t.timer.tcnt = s.cfg.reloadSteady ∧ t.timer.ovfFlag = false ∧ t.shift = s.shift := by
  obtain ⟨t, hstep, hsched, ⟨hserved, htcnt⟩, hft⟩ :=
    next_of_completes (step_handler hd.stepping hs (hd.timerTakeable hf)) (completes_isrTimerOvf hd.collides) (by simp)
  refine ⟨t, hstep, hsched, onlyChanges_mono (by simp [periodParts]) hft, hft .time (by simp), ?_, hserved,
    shift_eq_of_onlyChanges hft (by simp [shiftParts])⟩
  rw [htcnt, h0]
  exact BitVec.zero_add _

/-- After a tick that has moved the `j`-th level out, the line shows the next one as its period begins. -/
theorem onWave_of_ticked {c : Config} {start j : Nat} {b : Byte} {s u : State} (hpos : 0 < c.bitPeriod)
    (hd : Driving u) (hticked : Ticked 1 s u) (hnext : s.shift.sr.getLsbD 6 = periodLevel b (j + 1))
    (htime : u.time = start + (j + 1) * c.bitPeriod) : OnWave c start b u := by
  refine onWave_of_period (i := 0) hpos htime ?_
  rw [line_of_output hd.mode, hticked.shifted 7 (by decide) (by decide)]
  exact hnext

/-- One bit period: P counts, of which the last is a tick, and the timer handler, which reloads the count. -/
theorem runsThrough_period {c : Config} {start j : Nat} {b : Byte} {s : State} {rest : List Agent}
    (hreload : c.reloadSteady.toNat + c.bitPeriod = 256) (h : PeriodStart c start j s)
    (hs : s.sched = bitPeriodBlock c false ++ rest) (hthis : s.line = periodLevel b j)
    (hnext : s.shift.sr.getLsbD 6 = periodLevel b (j + 1)) :
    ∃ t, RunsThrough (OnWave c start b) (bitPeriodBlock c false).length s t ∧ t.sched = rest ∧
      PeriodStart c start (j + 1) t ∧ OnlyChanges periodParts s t ∧ Ticked 1 s t := by
  have hsmall := c.reloadSteady.isLt
  obtain ⟨k, hk⟩ := Nat.exists_eq_add_of_le' (show 1 ≤ c.bitPeriod by omega)
  have hblock : bitPeriodBlock c false ++ rest = waitCounts k ++ .clock :: .handler .timerOvf :: rest := by
    simp [bitPeriodBlock, waitCounts, hk, List.replicate_succ']
  have hlength : (bitPeriodBlock c false).length = k + 1 + 1 := by simp [bitPeriodBlock, waitCounts, hk]
  have htcnt : s.timer.tcnt.toNat + k = 255 := by
    rw [h.tcnt]
    omega
  have hstart := h.time
  obtain ⟨t, hcounts, hsched, hft, htT, htN⟩ := runsThrough_counts (good := OnWave c start b) k h.driving
    (hs.trans hblock) (by omega) fun u hu h1 h2 =>
      onWave_of_period (i := u.time - s.time) (j := j) (by omega) (by omega) (hu.trans hthis)
  have hdt := h.driving.of_onlyChanges (onlyChanges_mono countParts_subset_drivingParts hft)
  obtain ⟨u, htick, hsched', hfu, huT, hu0, huF, htu⟩ :=
    next_of_tick hdt hsched (BitVec.eq_of_toNat_eq (htN.trans htcnt))
  have hdu := hdt.of_onlyChanges (onlyChanges_mono periodParts_subset_drivingParts hfu)
  obtain ⟨v, hhandler, hsched'', hfv, hvT, hvN, hvF, hshift⟩ := next_of_reload hdu hsched' hu0 huF
  have hdv := hdu.of_onlyChanges (onlyChanges_mono periodParts_subset_drivingParts hfv)
  have hticked : Ticked 1 s u :=
    htu.congr (shift_eq_of_onlyChanges hft (by simp [shiftParts, countParts])).symm rfl
  have htime : u.time = start + (j + 1) * c.bitPeriod := by rw [Nat.succ_mul]; omega
  have hframe : OnlyChanges periodParts s u :=
    onlyChanges_mono (by simp [periodParts, countParts]) (onlyChanges_trans hft hfu)
  have hcfg : u.cfg = c := (hframe .cfg (by simp [periodParts])).trans h.cfg
  have hrun := (hcounts.snoc htick (onWave_of_ticked (by omega) hdu hticked hnext htime)).snoc hhandler
    (onWave_of_ticked (by omega) hdv (hticked.congr rfl hshift) hnext (hvT.trans htime))
  exact ⟨v, hlength ▸ hrun, hsched'', ⟨hdv, (hfv .cfg (by simp [periodParts])).trans hcfg, hcfg ▸ hvN, hvF,
    hvT.trans htime⟩, onlyChanges_trans_same hframe hfv, hticked.congr rfl hshift⟩

/-! ### Bursts -/

/-- The schedule of `n` bit periods in which no burst ends. -/
def periods (c : Config) (n : Nat) : List Agent := (List.replicate n (bitPeriodBlock c false)).flatten

theorem periods_succ (c : Config) (n : Nat) : periods c (n + 1) = bitPeriodBlock c false ++ periods c n := by
  rw [periods, List.replicate_succ, List.flatten_cons, periods]

/-- `n` bit periods shift the register's upper bits out, one level in each. -/
theorem runsThrough_periods {c : Config} {start : Nat} {b : Byte} {rest : List Agent}
    (hreload : c.reloadSteady.toNat + c.bitPeriod = 256) (n : Nat) : ∀ {j : Nat} {s : State}, n ≤ 7 →
    PeriodStart c start j s → s.sched = periods c n ++ rest →
    (∀ i ≤ n, s.shift.sr.getLsbD (7 - i) = periodLevel b (j + i)) →
    ∃ t, RunsThrough (OnWave c start b) (periods c n).length s t ∧ t.sched = rest ∧
      PeriodStart c start (j + n) t ∧ OnlyChanges periodParts s t ∧ Ticked n s t := by
  induction n with
  | zero => exact fun {j s} _ h hs _ => ⟨s, .refl s, hs, h, onlyChanges_refl _ s, ticked_zero s⟩
  | succ n ih =>
    intro j s hn h hs hlevels
    rw [periods_succ, List.append_assoc] at hs
    have hthis : s.line = periodLevel b j := (line_of_output h.driving.mode).trans (hlevels 0 (Nat.zero_le _))
    obtain ⟨t, hrun, hsched, ht, hft, hst⟩ := runsThrough_period hreload h hs hthis (hlevels 1 (by omega))
    obtain ⟨u, hrun', hsched', hu, hfu, htu⟩ := ih (by omega) ht hsched fun i hi => by
      have hsub : 7 - i - 1 = 7 - (i + 1) := by omega
      have hsum : j + 1 + i = j + (i + 1) := by omega
      rw [hst.shifted (7 - i) (by omega) (by omega), hsub, hsum]
      exact hlevels (i + 1) (by omega)
    refine ⟨u, ?_, hsched', ?_, onlyChanges_trans_same hft hfu, ?_⟩
    · rw [periods_succ, List.length_append]
      exact hrun.trans hrun'
    · rwa [Nat.add_assoc, Nat.add_comm 1 n] at hu
    · rw [Nat.add_comm]
      exact hst.trans htu

/-- A burst of `n` bit periods begins with the `j`-th: the counter will wrap with its last tick, and the register's upper bits
are the levels to show (R236). -/
structure BurstStart (c : Config) (start : Nat) (b : Byte) (j n : Nat) (s : State) : Prop where
  period : PeriodStart c start j s
  counter : s.shift.cnt.toNat + n = 16
  levels : ∀ i ≤ n, s.shift.sr.getLsbD (7 - i) = periodLevel b (j + i)

theorem BurstStart.onWave {c : Config} {start j n : Nat} {b : Byte} {s : State} (h : BurstStart c start b j n s)
    (hpos : 0 < c.bitPeriod) : OnWave c start b s :=
  onWave_of_period hpos h.period.time
    ((line_of_output h.period.driving.mode).trans (h.levels 0 (Nat.zero_le n)))

/-- A burst leads to where the overflow handler can be taken. -/
theorem runsThrough_burst {c : Config} {start j n : Nat} {b : Byte} {s : State} {rest : List Agent}
    (hreload : c.reloadSteady.toNat + c.bitPeriod = 256) (hn : n ≤ 7) (h : BurstStart c start b j n s)
    (hs : s.sched = periods c n ++ rest) :
    ∃ t, RunsThrough (OnWave c start b) (periods c n).length s t ∧ t.sched = rest ∧ PeriodStart c start (j + n) t ∧
      t.handlerTakeable .srOvf = true ∧ OnlyChanges periodParts s t := by
  obtain ⟨t, hrun, hsched, ht, hf, hticked⟩ := runsThrough_periods hreload n hn h.period hs h.levels
  have hovf : t.shift.ovfFlag = true := by
    rw [hticked.ovfFlag, h.counter]
    exact Bool.or_true _
  exact ⟨t, hrun, hsched, ht, ht.driving.srTakeable ht.served hovf, hf⟩

/-! ### What the overflow handler loads -/

/-- The parts that loading a half-frame writes. -/
def loadParts : List Part :=
  [.sched, .edgeFlag, .lastLevel, .srOvfFlag, .txHalfFrameActive, .sr, .cnt, .inflight, .tail .tx]

/-- Loading a half-frame leaves the bit clock alone. -/
theorem PeriodStart.of_load {c : Config} {start j : Nat} {s t : State} (h : PeriodStart c start j s)
    (hf : OnlyChanges loadParts s t) : PeriodStart c start j t where
  driving := h.driving.of_onlyChanges (onlyChanges_mono (by simp [loadParts, drivingParts]) hf)
  cfg := (hf .cfg (by simp [loadParts])).trans h.cfg
  tcnt := (hf .tcnt (by simp [loadParts])).trans h.tcnt
  served := (hf .timerOvfFlag (by simp [loadParts])).trans h.served
  time := (hf .time (by simp [loadParts])).trans h.time

/-- The priming value shows the lead's level before and after its one tick (30_encoding.md R128). -/
theorem primingValue_levels (b : Byte) : ∀ i ≤ 1, primingValue.getLsbD (7 - i) = periodLevel b (0 + i) := by
  intro i hi
  interval_cases i <;> rfl

/-- The first half-frame shows periods 1 to 6: the lead, the start bit and the byte's bits 0 to 3 (R126). -/
theorem halfFrame1_levels (b : Byte) :
    ∀ i ≤ 5, (halfFrame1 (reverseBits b)).getLsbD (7 - i) = periodLevel b (1 + i) := by
  have hmap : ((List.range 6).map fun i => (halfFrame1 (reverseBits b)).getLsbD (7 - i)) =
      (List.range 6).map fun i => periodLevel b (1 + i) := (halfFrame1_bits b).trans rfl
  exact fun i hi => List.map_inj_left.mp hmap i (List.mem_range.mpr (Nat.lt_succ_of_le hi))

/-- The second half-frame shows periods 6 to 11: the byte's bits 3 to 7 and the stop bit (R127). -/
theorem halfFrame2_levels (b : Byte) :
    ∀ i ≤ 5, (halfFrame2 (reverseBits b)).getLsbD (7 - i) = periodLevel b (6 + i) := by
  have hmap : ((List.range 6).map fun i => (halfFrame2 (reverseBits b)).getLsbD (7 - i)) =
      (List.range 6).map fun i => periodLevel b (6 + i) := (halfFrame2_bits b).trans rfl
  exact fun i hi => List.map_inj_left.mp hmap i (List.mem_range.mpr (Nat.lt_succ_of_le hi))

/-- A ring that holds one byte holds it in the slot after the tail, which is the head's (41_ring_buffers.md R163). -/
theorem nextIndex_tail_of_single {s : State} {r : RingSel} {v : Byte} (hs : RingInv s) (h : s.ringContents r = [v]) :
    s.nextIndex r (s.ring r).tail = (s.ring r).head ∧ s.slot r (s.nextIndex r (s.ring r).tail) = v := by
  have hocc : s.occupancy r = 1 := by rw [← length_ringContents, h, List.length_singleton]
  constructor
  · have hmod := tail_add_occupancy hs.1 r
    rw [hocc] at hmod
    rw [← BitVec.toNat_inj, nextIndex_toNat hs.1]
    exact Eq.trans hmod (Nat.mod_eq_of_lt (ringFits_ring hs r).head)
  · have hpop := ringContents_popped hs.1 (r := r) (by rw [hocc]; exact Nat.one_ne_zero)
    exact (List.cons.inj (hpop.symm.trans h)).1

/-- A ring's queue is kept where its indices and slots are. -/
theorem ringContents_of_onlyChanges {parts : List Part} {s t : State} {r : RingSel} (hf : OnlyChanges parts s t)
    (hcfg : .cfg ∉ parts) (hhead : .head r ∉ parts) (htail : .tail r ∉ parts) (hslot : ∀ i, .slot r i ∉ parts) :
    t.ringContents r = s.ringContents r := by
  have hc : t.cfg = s.cfg := hf .cfg hcfg
  have hh : (t.ring r).head = (s.ring r).head := hf (.head r) hhead
  have ht : (t.ring r).tail = (s.ring r).tail := hf (.tail r) htail
  have hs : ∀ i, t.slot r i = s.slot r i := fun i => hf (.slot r i) (hslot i)
  simp only [State.ringContents, State.occupancy, hc, hh, ht, hs]

theorem tx_empty_of_onlyChanges {parts : List Part} {s t : State} (hf : OnlyChanges parts s t)
    (hhead : .head .tx ∉ parts) (htail : .tail .tx ∉ parts) (hempty : s.tx.head = s.tx.tail) :
    t.tx.head = t.tx.tail :=
  (hf (.head .tx) hhead).trans (hempty.trans (hf (.tail .tx) htail).symm)

/-- The first half-frame is loaded after the priming burst, and the ring's one byte is taken. -/
theorem next_of_firstHalf {c : Config} {start : Nat} {b : Byte} {s : State} {rest : List Agent}
    (h : PeriodStart c start 1 s) (hs : s.sched = .handler .srOvf :: rest)
    (ht : s.handlerTakeable .srOvf = true) (hring : RingInv s) (hhalf : s.status.txHalfFrameActive = false)
    (hqueue : s.ringContents .tx = [reverseBits b]) :
    ∃ t, step s = .next t ∧ t.sched = rest ∧ BurstStart c start b 1 5 t ∧
      t.status.txHalfFrameActive = true ∧ t.inflight = reverseBits b ∧ t.tx.head = t.tx.tail := by
  obtain ⟨hnext, hslot⟩ := nextIndex_tail_of_single hring hqueue
  have hheld : s.tx.head ≠ s.tx.tail := by
    intro heq
    have hempty : s.isEmpty .tx = true := isEmpty_iff.mpr heq
    have hocc := occupancy_eq_zero_of_empty hring.1 hempty
    rw [← length_ringContents, hqueue] at hocc
    cases hocc
  obtain ⟨t, hstep, hsched, ⟨-, hinflight, htail, hactive, hsr, hcnt⟩, hf⟩ :=
    next_of_completes (step_handler h.driving.stepping hs ht) (overflowLoadsTheNextByte _ hring.1 h.driving.transmitting
      hhalf hheld h.driving.collides) (by simp)
  have hperiod := h.of_load (onlyChanges_mono (by simp [loadParts]) hf)
  have hframe : t.shift.sr = halfFrame1 (reverseBits b) := by
    rw [hsr, halfFrame1, ← hslot]
    rfl
  exact ⟨t, hstep, hsched, ⟨hperiod, by rw [hcnt], hframe ▸ halfFrame1_levels b⟩, hactive, hinflight.trans hslot,
    (hf (.head .tx) (by simp)).trans (hnext.symm.trans htail.symm)⟩

/-- The second half-frame is loaded after the first. -/
theorem next_of_secondHalf {c : Config} {start : Nat} {b : Byte} {s : State} {rest : List Agent}
    (h : PeriodStart c start 6 s) (hs : s.sched = .handler .srOvf :: rest)
    (ht : s.handlerTakeable .srOvf = true) (hhalf : s.status.txHalfFrameActive = true)
    (hbyte : s.inflight = reverseBits b) (hempty : s.tx.head = s.tx.tail) :
    ∃ t, step s = .next t ∧ t.sched = rest ∧ BurstStart c start b 6 5 t ∧
      t.status.txHalfFrameActive = false ∧ t.tx.head = t.tx.tail := by
  obtain ⟨t, hstep, hsched, ⟨-, hactive, hsr, hcnt⟩, hf⟩ :=
    next_of_completes (step_handler h.driving.stepping hs ht)
      (overflowLoadsTheSecondHalfFrame _ h.driving.transmitting hhalf h.driving.collides) (by simp)
  have hperiod := h.of_load (onlyChanges_mono (by simp [loadParts]) hf)
  have hframe : t.shift.sr = halfFrame2 (reverseBits b) := by
    rw [hsr, halfFrame2, ← hbyte]
  exact ⟨t, hstep, hsched, ⟨hperiod, by rw [hcnt], hframe ▸ halfFrame2_levels b⟩, hactive,
    tx_empty_of_onlyChanges hf (by simp) (by simp) hempty⟩

/-- The line is released after the second half-frame, at the stop bit's level. -/
theorem next_of_end {c : Config} {start : Nat} {b : Byte} {s : State} (h : PeriodStart c start 11 s)
    (hv : c.valid = true) (hpos : 0 < c.bitPeriod) (hs : s.sched = [.handler .srOvf])
    (ht : s.handlerTakeable .srOvf = true) (hhalf : s.status.txHalfFrameActive = false) (hempty : s.tx.head = s.tx.tail) :
    ∃ t, step s = .next t ∧ OnWave c start b t ∧ t.role = .idle ∧ t.edge.ie = true ∧
      t.time = start + 11 * c.bitPeriod ∧ t.ringContents .tx = [] := by
  obtain ⟨t, hx, htx, -, -, -, hmode, -, -, -, harmed, -, -, hf⟩ :=
    overflowEndsTheTransmission { s with sched := [] } h.driving.transmitting hhalf hempty
  have hrx : t.status.rxPackageActive = false := (hf .rxPackageActive (by simp)).trans h.driving.notReceiving
  have hext : t.extLevel = true := (hf .extLevel (by simp)).trans h.driving.farEnd
  have htime : t.time = start + 11 * c.bitPeriod := (hf .time (by simp)).trans h.time
  have hcfg : t.cfg = c := (hf .cfg (by simp)).trans h.cfg
  have hline : t.line = periodLevel b 11 := by
    rw [State.line, hmode, if_neg (by decide), hext]
    rfl
  have hnone : t.isEmpty .tx = true := isEmpty_iff.mpr (tx_empty_of_onlyChanges hf (by simp) (by simp) hempty)
  have hocc : t.occupancy .tx = 0 := occupancy_eq_zero_of_empty (by rwa [hcfg]) hnone
  refine ⟨t, (step_handler h.driving.stepping hs ht).trans hx, onWave_of_period (i := 0) hpos htime hline, ?_, harmed,
    htime, ?_⟩
  · simp [State.role, htx, hrx]
  · rw [ringContents_eq, hocc]
    rfl

/-! ### The start, and the whole byte -/

/-- `TB_WAIT_RX` starts the transmission: the priming burst begins with period 0 (R210, 45_bit_clock.md R280). -/
theorem next_of_start {b : Byte} {s : State} {rest : List Agent} (hq : s.quiescent = false) (hg : s.gie = true)
    (hext : s.extLevel = true) (hpc : s.mainPc = .tbWaitRx) (hidle : s.inTransfer = false)
    (hs : s.sched = .main :: rest) :
    ∃ t, step s = .next t ∧ t.sched = rest ∧ BurstStart s.cfg s.time b 0 1 t ∧
      t.status.txHalfFrameActive = false ∧ t.ringContents .tx = s.ringContents .tx := by
  obtain ⟨-, hrx⟩ := inTransfer_eq_false_iff.mp hidle
  obtain ⟨-, hstart, -⟩ := tbWaitRxStartsTheTransmission { s with sched := rest } hpc
  obtain ⟨t, hx, hstarted, hf⟩ := hstart hrx hext
  obtain ⟨htcnt, hrun, htie, htf, hsr, hmode, hclk, hcnt, -, hie, hedge, -, -, -, hhalf, htx, -, -⟩ := hstarted
  have hframe := onlyChanges_trans (onlyChanges_setSched s rest) hf
  have hstep := (step_micro hq hs (by rw [hpc]; exact nofun)).trans hx
  refine ⟨t, hstep, hf .sched (by simp [transmissionStartParts]),
    ⟨⟨?driving, ?cfg, htcnt, htf, ?time⟩, ?counter, ?levels⟩, hhalf, ?queue⟩
  case driving =>
    have hquiet := quiescent_congr (hf .faults (by simp [transmissionStartParts]))
      (hf .refused (by simp [transmissionStartParts]))
    exact {
      stepping := hquiet.trans hq
      gie := (hf .gie (by simp [transmissionStartParts])).trans hg
      farEnd := (hf .extLevel (by simp [transmissionStartParts])).trans hext
      transmitting := htx
      notReceiving := (hf .rxPackageActive (by simp [transmissionStartParts])).trans hrx
      run := hrun
      timerIe := htie
      mode := hmode
      clk := hclk
      srIe := hie
      unarmed := hedge }
  case cfg => exact hf .cfg (by simp [transmissionStartParts])
  case time =>
    rw [Nat.zero_mul, Nat.add_zero]
    exact hf .time (by simp [transmissionStartParts])
  case counter => rw [hcnt]
  case levels =>
    rw [hsr]
    exact primingValue_levels b
  case queue =>
    exact ringContents_of_onlyChanges hframe (by simp [transmissionStartParts]) (by simp [transmissionStartParts])
      (by simp [transmissionStartParts]) (by simp [transmissionStartParts])

/-- The schedule of one byte is three bursts, of 1, 5 and 5 bit periods, each ended by the overflow handler (R245). -/
theorem oneByteSchedule_eq (c : Config) :
    oneByteSchedule c = .main :: (periods c 1 ++ .handler .srOvf :: (periods c 5 ++ .handler .srOvf ::
      (periods c 5 ++ [.handler .srOvf]))) := by
  simp [oneByteSchedule, bitPeriodBlock, periods, List.range_succ, List.replicate_succ]

theorem length_oneByteSchedule (c : Config) :
    (oneByteSchedule c).length =
      (periods c 1).length + 1 + 1 + (periods c 5).length + 1 + (periods c 5).length + 1 := by
  simp only [oneByteSchedule_eq, List.length_cons, List.length_append, List.length_nil]
  omega

/-- What a burst keeps of the transmission: which half is on the wire, the byte in flight, and the queue. -/
theorem burst_keeps {s t : State} (hf : OnlyChanges periodParts s t) :
    t.status.txHalfFrameActive = s.status.txHalfFrameActive ∧ t.inflight = s.inflight ∧
      t.ringContents .tx = s.ringContents .tx ∧ (s.tx.head = s.tx.tail → t.tx.head = t.tx.tail) :=
  ⟨hf .txHalfFrameActive (by simp [periodParts]), hf .inflight (by simp [periodParts]),
    ringContents_of_onlyChanges hf (by simp [periodParts]) (by simp [periodParts]) (by simp [periodParts])
      (by simp [periodParts]),
    tx_empty_of_onlyChanges hf (by simp [periodParts]) (by simp [periodParts])⟩

/-- The run of one byte: the start, and three bursts, each followed by the overflow handler's step. -/
theorem runsThrough_oneByteSchedule {s : State} {b : Byte} (hs : s.sched = oneByteSchedule s.cfg)
    (hq : s.quiescent = false) (hring : RingInv s) (hadj : s.cfg.rAdj = 0) (hg : s.gie = true)
    (hext : s.extLevel = true) (hpc : s.mainPc = .tbWaitRx) (hidle : s.inTransfer = false)
    (hqueue : s.ringContents .tx = [reverseBits b]) :
    ∃ t, RunsThrough (OnWave s.cfg s.time b) (oneByteSchedule s.cfg).length s t ∧ t.role = .idle ∧ t.edge.ie = true ∧
      t.time = s.time + 11 * s.cfg.bitPeriod ∧ t.ringContents .tx = [] := by
  have hreload := reloadSteady_add_bitPeriod hring.1 hadj
  have hpos : 0 < s.cfg.bitPeriod := by
    have hsmall := s.cfg.reloadSteady.isLt
    omega
  obtain ⟨t₀, hstep₀, hs₀, hb₀, hhalf₀, hqueue₀⟩ :=
    next_of_start (b := b) hq hg hext hpc hidle (hs.trans (oneByteSchedule_eq _))
  have hgood₀ := hb₀.onWave hpos
  -- priming burst, first half-frame
  obtain ⟨t₁, hrun₁, hs₁, hp₁, ht₁, hf₁⟩ := runsThrough_burst hreload (by decide) hb₀ hs₀
  obtain ⟨hkeepHalf₁, -, hkeepQueue₁, -⟩ := burst_keeps hf₁
  have hfirst := RunsThrough.head hstep₀ hgood₀ hrun₁
  obtain ⟨t₂, hstep₂, hs₂, hb₂, hhalf₂, hbyte₂, hempty₂⟩ := next_of_firstHalf hp₁ hs₁ ht₁ (hfirst.ringInv hring)
    (hkeepHalf₁.trans hhalf₀) (hkeepQueue₁.trans (hqueue₀.trans hqueue))
  have hgood₂ := hb₂.onWave hpos
  -- first half-frame's burst, second half-frame
  obtain ⟨t₃, hrun₃, hs₃, hp₃, ht₃, hf₃⟩ := runsThrough_burst hreload (by decide) hb₂ hs₂
  obtain ⟨hkeepHalf₃, hkeepByte₃, -, hkeepEmpty₃⟩ := burst_keeps hf₃
  obtain ⟨t₄, hstep₄, hs₄, hb₄, hhalf₄, hempty₄⟩ := next_of_secondHalf hp₃ hs₃ ht₃
    (hkeepHalf₃.trans hhalf₂) (hkeepByte₃.trans hbyte₂) (hkeepEmpty₃ hempty₂)
  have hgood₄ := hb₄.onWave hpos
  -- second half-frame's burst, release
  obtain ⟨t₅, hrun₅, hs₅, hp₅, ht₅, hf₅⟩ := runsThrough_burst hreload (by decide) hb₄ hs₄
  obtain ⟨hkeepHalf₅, -, -, hkeepEmpty₅⟩ := burst_keeps hf₅
  obtain ⟨t₆, hstep₆, hgood₆, hend⟩ := next_of_end (b := b) hp₅ hring.1 hpos hs₅ ht₅ (hkeepHalf₅.trans hhalf₄)
    (hkeepEmpty₅ hempty₄)
  have hrun := ((((hfirst.snoc hstep₂ hgood₂).trans hrun₃).snoc hstep₄ hgood₄).trans hrun₅).snoc hstep₆ hgood₆
  exact ⟨t₆, length_oneByteSchedule s.cfg ▸ hrun, hend⟩

/-- Settles O59: after every step of the run of one byte the line shows the table's level. -/
theorem transmittedByteIsItsWireFrame : Obligations.TransmittedByteIsItsWireFrame := by
  intro s b hq hring hadj hg hext hpc hidle hqueue
  obtain ⟨t, hrun, hend⟩ := runsThrough_oneByteSchedule (s := { s with sched := oneByteSchedule s.cfg }) rfl hq
    (ringInv_setInputs hring s.inbox _) hadj hg hext hpc hidle hqueue
  exact ⟨hrun.run_good, t, hrun.run, hend⟩

end Sys2Proof.Proofs
end

section
/-! PROOFS. The bit clock: the timer's commands and handler, and when the next tick comes (45_bit_clock.md R271 to R280). -/

namespace Sys2Proof.Proofs

open Sys2Proof.Machine Sys2Proof.Laws Sys2Proof.Claims

/-! ### When the next tick comes -/

theorem clockCounts_succ {s t : State} (h : exec .timeStep s = .next t) (k : Nat) :
    clockCounts (k + 1) s = clockCounts k t := by
  rw [clockCounts, h]

/-- Below 255 a `TIME_STEP` only counts (R276). -/
theorem timeStep_of_counting {s : State} (hrun : s.timer.run = true) (hc : s.collides = false)
    (h255 : s.timer.tcnt ≠ 255) :
    ∃ t, exec .timeStep s = .next t ∧ t.timer = { s.timer with tcnt := s.timer.tcnt + 1 } ∧ t.shift = s.shift ∧
      t.collides = false := by
  have hcount := countStep_of_counting (s := later 1 s) hrun h255
  have hfree := (countStep_collides (later 1 s)).trans hc
  refine ⟨_, exec_of_finish_ok (exec_timeStep s) hfree, ?_, ?_, hfree⟩
  · rw [settleEdge_timer, hcount]
    rfl
  · rw [settleEdge_shift, hcount]
    rfl

/-- At 255 a `TIME_STEP` is the tick (R276). -/
theorem timeStep_of_wrapping {s : State} (hrun : s.timer.run = true) (hc : s.collides = false)
    (h255 : s.timer.tcnt = 255) :
    ∃ t, exec .timeStep s = .next t ∧ t.timer.tcnt = 0 ∧ t.timer.ovfFlag = true := by
  have hwrap := countStep_of_wrapping (s := later 1 s) hrun h255
  refine ⟨_, exec_of_finish_ok (exec_timeStep s) ((countStep_collides _).trans hc), ?_⟩
  rw [settleEdge_timer, hwrap, shiftTick_timer]
  exact ⟨rfl, rfl⟩

theorem tickComesAfter_one {s : State} (hrun : s.timer.run = true) (hc : s.collides = false)
    (h255 : s.timer.tcnt = 255) : TickComesAfter 1 s := by
  obtain ⟨t, hstep, htick⟩ := timeStep_of_wrapping hrun hc h255
  refine ⟨fun k hk => ?_, t, clockCounts_succ hstep 0, htick⟩
  obtain rfl : k = 0 := Nat.lt_one_iff.mp hk
  exact ⟨s, rfl, rfl, rfl, rfl⟩

/-- A count puts the next tick one `TIME_STEP` nearer. -/
theorem tickComesAfter_succ {n : Nat} {s t : State} (hstep : exec .timeStep s = .next t)
    (hcount : t.timer.tcnt.toNat = s.timer.tcnt.toNat + 1) (hflag : t.timer.ovfFlag = s.timer.ovfFlag)
    (hshift : t.shift = s.shift) (h : TickComesAfter n t) : TickComesAfter (n + 1) s := by
  obtain ⟨hbefore, u, hu, htick⟩ := h
  refine ⟨fun k hk => ?_, u, (clockCounts_succ hstep n).trans hu, htick⟩
  cases k with
  | zero => exact ⟨s, rfl, rfl, rfl, rfl⟩
  | succ k =>
    obtain ⟨v, hv, hvcount, hvflag, hvshift⟩ := hbefore k (Nat.lt_of_succ_lt_succ hk)
    exact ⟨v, (clockCounts_succ hstep k).trans hv, by omega, hvflag.trans hflag, hvshift.trans hshift⟩

/-- A running count's next tick comes as many `TIME_STEP`s later as it lacks of 256 (R276). -/
theorem tickComesAfter_of_running {n : Nat} : ∀ {s : State}, s.timer.run = true → s.collides = false →
    s.timer.tcnt.toNat + n = 256 → TickComesAfter n s := by
  induction n with
  | zero =>
    intro s _ _ hn
    omega
  | succ n ih =>
    intro s hrun hc hn
    by_cases h255 : s.timer.tcnt = 255
    · obtain rfl : n = 0 := by bv_omega
      exact tickComesAfter_one hrun hc h255
    · obtain ⟨t, hstep, htimer, hshift, hfree⟩ := timeStep_of_counting hrun hc h255
      have hcount : t.timer.tcnt.toNat = s.timer.tcnt.toNat + 1 := by
        rw [htimer]
        exact toNat_add_one h255
      have htick := ih (by rwa [htimer]) hfree (by omega)
      exact tickComesAfter_succ hstep hcount (by rw [htimer]) hshift htick

/-! ### After the timer handler -/

/-- The handler leaves the timer running at the count plus the steady reload, and the next tick follows from there. -/
theorem tickComesAfter_isrTimerOvf {n : Nat} {s : State} (hrun : s.timer.run = true) (hc : s.collides = false)
    (hn : (s.timer.tcnt + s.cfg.reloadSteady).toNat + n = 256) :
    ∃ t, exec .isrTimerOvf s = .next t ∧ TickComesAfter n t := by
  obtain ⟨t, hx, ⟨-, htcnt⟩, hframe, -⟩ := completes_isrTimerOvf hc
  have htrun : t.timer.run = s.timer.run := hframe .timerRun (by simp)
  have hfree : t.collides = s.collides := collides_congr (hframe .srMode (by simp)) (hframe .extLevel (by simp))
  exact ⟨t, hx, tickComesAfter_of_running (htrun.trans hrun) (hfree.trans hc) (by rwa [htcnt])⟩

/-- Settles O27: without a carry the handler's add keeps the count's place in the period, whatever the latency. -/
theorem periodLawForEveryLatency : Obligations.PeriodLawForEveryLatency := by
  intro s hrun hc hsmall
  constructor
  · have hsum : (s.timer.tcnt + s.cfg.reloadSteady).toNat = s.timer.tcnt.toNat + s.cfg.reloadSteady.toNat :=
      BitVec.toNat_add_of_lt (by omega)
    exact tickComesAfter_isrTimerOvf hrun hc (by omega)
  · intro hge hle
    have hreload := reloadSteady_toNat s.cfg
    omega

/-- Settles O28: the handler's add loses a carry of 256, so the count has a full turn more to go. -/
theorem lateHandlerDelaysTheTickByAFullTurn : Obligations.LateHandlerDelaysTheTickByAFullTurn := by
  intro s hrun hc hlate
  have hsum : (s.timer.tcnt + s.cfg.reloadSteady).toNat = s.timer.tcnt.toNat + s.cfg.reloadSteady.toNat - 256 := by
    bv_omega
  exact tickComesAfter_isrTimerOvf hrun hc (by omega)

/-! ### The first tick of a transfer -/

/-- Settles O29: the edge handler starts the timer at R_I, which lacks H - D_ENTRY of 256 (00_scope.md R9). -/
theorem firstReceiveTickIsHalfAPeriodLessTheLatency : Obligations.FirstReceiveTickIsHalfAPeriodLessTheLatency := by
  intro s hv hidle hline
  obtain ⟨-, hedge⟩ := edgeHandlerStartsAReceptionOnALowLine
  obtain ⟨-, hstart, -⟩ := hedge s
  obtain ⟨t, hx, htcnt, hrun, -, -, hmode, -⟩ := hstart hidle hline
  have hfree : t.collides = false := collides_eq_false_iff.mpr (.inl (by simp [hmode]))
  obtain ⟨-, -, -, -, -, -, hle, hd⟩ := valid_iff.mp hv
  have hreload := reloadInitial_toNat hle hd
  exact ⟨t, hx, tickComesAfter_of_running hrun hfree (by rw [htcnt]; omega)⟩

/-- Settles O30: `START_TX` starts the timer at R_S, which is P short of 256 where R_ADJ is 0 (00_scope.md R9). -/
theorem firstTransmitTickIsOnePeriod : Obligations.FirstTransmitTickIsOnePeriod := by
  intro s hv hpc hrx hext
  constructor
  · obtain ⟨-, hstart, -⟩ := tbWaitRxStartsTheTransmission s hpc
    obtain ⟨t, hx, ⟨htcnt, hrun, -⟩, hframe⟩ := hstart hrx hext
    have htext : t.extLevel = s.extLevel := hframe .extLevel (by simp [transmissionStartParts])
    have hfree : t.collides = false := collides_eq_false_iff.mpr (.inr (htext.trans hext))
    exact ⟨t, hx, tickComesAfter_of_running hrun hfree (by rw [htcnt]; omega)⟩
  · intro hadj
    have hreload := reloadSteady_add_bitPeriod hv hadj
    omega

/-! ### The timer's commands -/

theorem onlyChanges_timerWrite (v : Byte) (s : State) : OnlyChanges [.tcnt] s (timerWrite v s) :=
  onlyChanges_setTimer (by simp [timerParts, Unchanged])

theorem onlyChanges_timerAdd (v : Byte) (s : State) : OnlyChanges [.tcnt] s (timerAdd v s) :=
  onlyChanges_setTimer (by simp [timerParts, Unchanged])

theorem onlyChanges_timerStart (s : State) :
    OnlyChanges [.timerRun, .timerOvfIe, .timerOvfFlag] s (timerStart s) :=
  onlyChanges_setTimer (by simp [timerParts, Unchanged])

/-- Settles O24: each primitive writes its fields of the timer, and `settle` follows. -/
theorem timerPrimitives : Obligations.TimerPrimitives := by
  intro s hc
  refine ⟨fun v => ⟨decode_wordOf 0x4 0x0 v, ?write⟩, fun v => ⟨decode_wordOf 0x4 0x1 v, ?add⟩, ⟨rfl, ?start⟩,
    rfl, ?stop⟩
  case write =>
    exact completes_of_finish_ok (exec_eq_finish (.timerWrite v) s rfl) hc rfl rfl (onlyChanges_timerWrite v s)
  case add =>
    exact completes_of_finish_ok (exec_eq_finish (.timerAdd v) s rfl) hc rfl (BitVec.toNat_add s.timer.tcnt v)
      (onlyChanges_timerAdd v s)
  case start =>
    exact completes_of_finish_ok (exec_eq_finish .timerStart s rfl) hc rfl ⟨rfl, rfl, rfl⟩ (onlyChanges_timerStart s)
  case stop =>
    exact completes_of_finish_ok (exec_eq_finish .timerStop s rfl) hc rfl ⟨rfl, rfl, rfl⟩ (onlyChanges_timerStop s)

/-- Settles O25: the handler's add is modulo 256. -/
theorem timerHandlerAddsTheSteadyReload : Obligations.TimerHandlerAddsTheSteadyReload := by
  refine ⟨rfl, fun s hc => ?_⟩
  obtain ⟨t, hx, ⟨hflag, htcnt⟩, hrest⟩ := completes_isrTimerOvf hc
  exact ⟨t, hx, ⟨hflag, htcnt ▸ BitVec.toNat_add s.timer.tcnt s.cfg.reloadSteady⟩, hrest⟩

end Sys2Proof.Proofs
end

section
/-! PROOFS. The TX ring is empty unless a transmission sends its bytes or `MAIN` is about to start one (46_public_api.md
R314). -/

namespace Sys2Proof.Proofs

open Sys2Proof.Machine Sys2Proof.Laws Sys2Proof.Safety

/-! ### What keeps the invariant -/

/-- A transmission sends the TX ring's bytes, or there are none. -/
def TxRingServed (s : State) : Prop := s.status.txFromBufferActive = true ∨ s.isEmpty .tx = true

theorem TxRingServed.idleTxRingInv {s : State} (h : TxRingServed s) : IdleTxRingInv s := .inr (.inr h)

/-- Away from `TB_CHECK` and `TB_WAIT_RX` the invariant is that the ring is served. -/
theorem txRingServed_of_idleTxRingInv {s : State} (h : IdleTxRingInv s) (hcheck : s.mainPc ≠ .tbCheck)
    (hwait : s.mainPc ≠ .tbWaitRx) : TxRingServed s := (h.resolve_left hcheck).resolve_left hwait

theorem isEmpty_congr {s t : State} {r : RingSel} (h : t.ring r = s.ring r) : t.isEmpty r = s.isEmpty r := by
  rw [State.isEmpty, State.isEmpty, h]

/-- What leaves the transmission's flag and the TX ring alone leaves the ring served. -/
theorem TxRingServed.congr {s t : State} (h : TxRingServed s)
    (hactive : t.status.txFromBufferActive = s.status.txFromBufferActive) (hring : t.tx = s.tx) : TxRingServed t := by
  unfold TxRingServed
  rwa [hactive, isEmpty_congr (r := .tx) hring]

/-- What leaves `MAINPC` alone as well keeps the invariant. -/
theorem idleTxRingInv_congr {s t : State} (h : IdleTxRingInv s) (hpc : t.mainPc = s.mainPc)
    (hactive : t.status.txFromBufferActive = s.status.txFromBufferActive) (hring : t.tx = s.tx) : IdleTxRingInv t := by
  unfold IdleTxRingInv
  rwa [hpc, hactive, isEmpty_congr (r := .tx) hring]

/-- The waiting words and the schedule are no part of it. -/
theorem idleTxRingInv_setInputs {s : State} (h : IdleTxRingInv s) (waiting : List Request) (rest : List Agent) :
    IdleTxRingInv { s with inbox := waiting, sched := rest } := h

/-! ### The bodies -/

/-- A host command reaches the TX ring only to flush it (R310): it queues nothing itself. -/
theorem txRingServed_apiBody {i : Instr} {s u : State} (hc : i.cmdClass = .api) (hs : TxRingServed s)
    (h : bodyOf i s = .ok u) : TxRingServed u := by
  cases i
  case flushBuffers => obtain ⟨-, rfl⟩ := flushBuffersBody_ok h; exact .inr rfl
  case initReceiver =>
    rcases (initReceiverBody_ok h).2 with ⟨rfl, -⟩ | ⟨rfl, -⟩
    · exact hs
    · exact hs.congr (by simp) (by simp)
  case transmitByte | receiveByte | dataAvailable | readRxOverflow | clearRxOverflow => cases h; exact hs
  all_goals cases hc

/-- The overflow handler ends a transmission only when the TX ring is empty (44_transport.md R243). -/
theorem idleTxRingInv_isrSrOvfBody {s u : State} (hs : IdleTxRingInv s) (h : isrSrOvfBody s = .ok u) :
    IdleTxRingInv u := by
  rcases isrSrOvfBody_ok h with ⟨htx, -, rfl⟩ | ⟨-, -, hempty, rfl⟩ | ⟨htx, -, q, v, rfl⟩ | ⟨-, -, q, o, -, rfl⟩
  · exact TxRingServed.idleTxRingInv (.inl htx)
  · exact TxRingServed.idleTxRingInv (.inr ((isEmpty_congr (r := .tx) (endTransmission_tx s)).trans hempty))
  · exact TxRingServed.idleTxRingInv (.inl htx)
  · exact idleTxRingInv_congr hs (by simp) (by simp) (by simp)

theorem idleTxRingInv_handlerBody {k : Irq} {s u : State} (hs : IdleTxRingInv s) (h : bodyOf k.instr s = .ok u) :
    IdleTxRingInv u := by
  have hentered : IdleTxRingInv (s.enterHandler k) := by cases k <;> exact hs
  cases k
  case edge =>
    rcases (isrEdgeBody_ok h).2 with ⟨rfl, -⟩ | ⟨rfl, -⟩
    · exact hentered
    · exact idleTxRingInv_congr hentered (by simp) (by simp) (by simp)
  case timerOvf => cases h; exact hentered
  case srOvf => exact idleTxRingInv_isrSrOvfBody hentered h

/-- Of the events only `RESET` reaches the TX ring, and it leaves the ring empty (70_reset_and_hazards.md R380). -/
theorem idleTxRingInv_eventBody {i : Instr} {s u : State} (hc : i.cmdClass = .event) (hs : IdleTxRingInv s)
    (h : bodyOf i s = .ok u) : IdleTxRingInv u := by
  rcases event_cases hc with rfl | ⟨l, rfl⟩ | ⟨g, rfl⟩ | rfl <;> cases h
  · exact idleTxRingInv_congr hs (by simp) (by simp) (by simp)
  · exact hs
  · exact hs
  · exact TxRingServed.idleTxRingInv (.inr rfl)

/-- `TB_SPACE` queues a byte and goes on to `TB_CHECK`, which returns only while a transmission runs, and otherwise goes on
to `TB_WAIT_RX`, which returns only by starting one (R304 to R306). -/
theorem idleTxRingInv_microStepBody {s u : State} (hs : IdleTxRingInv s) (h : microStepBody s = .ok u) :
    IdleTxRingInv u := by
  rcases microStepBody_ok h with rfl | ⟨v, q, -, rfl⟩ | ⟨-, htx, rfl⟩ | ⟨-, -, rfl⟩ | ⟨-, -, rfl⟩ | ⟨hpc, q, v, rfl⟩
  · exact hs
  · exact .inl rfl
  · exact TxRingServed.idleTxRingInv (.inl htx)
  · exact .inr (.inl rfl)
  · exact TxRingServed.idleTxRingInv (.inl (by simp))
  · have hserved := txRingServed_of_idleTxRingInv hs (by simp [hpc]) (by simp [hpc])
    exact TxRingServed.idleTxRingInv (hserved.congr rfl rfl)

/-! ### The step -/

/-- A host command runs only at `READY` (R300). -/
theorem mainPc_eq_ready_of_fetchNext_run {s u : State} {i : Instr} (h : fetchNext s = .run i u)
    (hc : i.cmdClass = .api) : u.mainPc = .ready := by
  rcases (fetchNext_run h).2 with ⟨rfl, -⟩ | ⟨-, -, rfl, -⟩ | ⟨k, -, -, -, rfl, -⟩ | ⟨-, -, -, -, hevent, -⟩ |
    ⟨-, -, -, -, hpc, -, -, -, rfl⟩
  · cases hc
  · cases hc
  · cases k <;> cases hc
  · cases hc.symm.trans hevent
  · exact hpc

theorem idleTxRingInv_exec {i : Instr} {s t : State} (hc : IntegratedClass i.cmdClass)
    (hready : i.cmdClass = .api → s.mainPc = .ready) (hs : IdleTxRingInv s) (h : exec i s = .next t) :
    IdleTxRingInv t := by
  obtain ⟨-, u, hu, -, rfl⟩ := exec_next h
  have hkept : IdleTxRingInv u := by
    rcases hc with hc | hc | hc
    · have hpc := hready hc
      have hserved := txRingServed_of_idleTxRingInv hs (by simp [hpc]) (by simp [hpc])
      exact (txRingServed_apiBody hc hserved hu).idleTxRingInv
    · obtain ⟨k, rfl⟩ := handler_cases hc
      exact idleTxRingInv_handlerBody hs hu
    · exact idleTxRingInv_eventBody hc hs hu
  exact idleTxRingInv_congr hkept rfl rfl rfl

theorem idleTxRingInv_microStep {s t : State} (hs : IdleTxRingInv s) (h : microStep s = .next t) :
    IdleTxRingInv t := by
  obtain ⟨u, hu, -, rfl⟩ := finish_next.mp h
  exact idleTxRingInv_congr (idleTxRingInv_microStepBody hs hu) rfl rfl rfl

/-- Settles O48: a host command starts where the ring is served and leaves it so; a handler, an event and a micro-step keep
the invariant. -/
theorem everyStepKeepsTheIdleTxRingEmpty : Obligations.EveryStepKeepsTheIdleTxRingEmpty := by
  intro s t hint hs h
  rcases step_next h with ⟨i, u, hf, hx⟩ | ⟨u, hf, hx⟩
  · obtain ⟨hc, -⟩ := integrated_of_fetchNext_run hint hf
    have hready := mainPc_eq_ready_of_fetchNext_run hf
    obtain ⟨waiting, rest, rfl⟩ := fetchNext_run_inputs hf
    exact idleTxRingInv_exec hc hready (idleTxRingInv_setInputs hs waiting rest) hx
  · obtain ⟨-, rest, -, -, rfl⟩ := fetchNext_micro hf
    exact idleTxRingInv_microStep (idleTxRingInv_setInputs hs s.inbox rest) hx

end Sys2Proof.Proofs
end

section
/-! PROOFS. The step that the schedule's first agent takes (46_public_api.md R300, R301), the host commands' steps, `MAIN`'s
micro-steps and the environment's events: what each writes and leaves alone (R302 to R313, R320, R321). -/

namespace Sys2Proof.Proofs

open Sys2Proof.Machine Sys2Proof.Laws Sys2Proof.Claims

/-! ### The next step -/

theorem fetchNext_of_sched {s : State} {a : Agent} {rest : List Agent} (hq : s.quiescent = false)
    (hs : s.sched = a :: rest) : fetchNext s = agentFetch a { s with sched := rest } := by
  simp [fetchNext, hq, hs]

theorem mainFetch_of_ready {s : State} {q : Request} {waiting : List Request} (hpc : s.mainPc = .ready)
    (hin : s.inbox = q :: waiting) : mainFetch s = acceptWord q { s with inbox := waiting } := by
  simp [mainFetch, hpc, hin]

/-- A host command's word is accepted from anyone, a primitive's or a handler's from the component harness (R300, D32). -/
theorem acceptWord_of_issuer {q : Request} {s : State} {i : Instr} (hd : decode q.word = .instr i)
    (hmay : i.cmdClass = .api ∨ (q.issuer = .harness ∧ i.cmdClass ≠ .event)) : acceptWord q s = .run i s := by
  rcases hmay with hapi | ⟨hissuer, hevent⟩
  · simp [acceptWord, hd, hapi]
  · simp [acceptWord, hd, hissuer, hevent]

theorem envFetch_of_event {w : Word} {s : State} {i : Instr} (hd : decode w = .instr i) (hc : i.cmdClass = .event)
    (hne : i ≠ .timeStep) : envFetch w s = .run i s := by
  simp [envFetch, hd, hc, hne]

/-- Settles O5: each clause names the agent whose fetch is the command. -/
theorem stepRunsTheDecodedCommand : Obligations.StepRunsTheDecodedCommand := by
  intro s i w rest hq hd
  refine ⟨fun issuer waiting hs hpc hin hmay => ?main, fun hs hc hne => ?env, step_clock hq, fun hs => ?unscheduled⟩
  case main =>
    have hfetch := (fetchNext_of_sched hq hs).trans (mainFetch_of_ready hpc hin)
    exact step_of_fetchNext_run (hfetch.trans (acceptWord_of_issuer hd hmay))
  case env => exact step_of_fetchNext_run ((fetchNext_of_sched hq hs).trans (envFetch_of_event hd hc hne))
  case unscheduled => exact step_of_fetchNext_run (by simp [fetchNext, hq, hs])

/-- Settles O10: away from `READY` `MAIN` takes no word, and a micro-step writes none of the inputs. -/
theorem waitingWordStaysWhileMainIsBusy : Obligations.WaitingWordStaysWhileMainIsBusy := by
  intro s rest hq hs hpc
  have hstep := step_micro hq hs hpc
  refine ⟨hstep, fun t ht => ?_⟩
  obtain ⟨u, hu, -, rfl⟩ := finish_next.mp (hstep.symm.trans ht)
  obtain ⟨⟨-, -, -, hinbox, hsched⟩, -⟩ := microStepBody_same hu
  exact ⟨hinbox, hsched⟩

/-! ### Frames -/

/-- A command's return writes `RET` and `MAINPC` (00_scope.md R15). -/
theorem onlyChanges_complete (s : State) (v : Ret) : OnlyChanges [.ret, .mainPc] s (s.complete v) := by
  intro p hp
  cases p
  case ret | mainPc => exact absurd hp (by simp)
  all_goals rfl

theorem onlyChanges_setMainPc (s : State) (pc : MainPc) : OnlyChanges [.mainPc] s { s with mainPc := pc } := by
  intro p hp
  cases p
  case mainPc => exact absurd hp (by simp)
  all_goals rfl

theorem onlyChanges_setExtLevel (s : State) (l : Level) : OnlyChanges [.extLevel] s { s with extLevel := l } := by
  intro p hp
  cases p
  case extLevel => exact absurd hp (by simp)
  all_goals rfl

theorem onlyChanges_setGie (s : State) (g : Bool) : OnlyChanges [.gie] s { s with gie := g } := by
  intro p hp
  cases p
  case gie => exact absurd hp (by simp)
  all_goals rfl

/-! ### Host commands -/

theorem initReceiverBody_of_inTransfer {s : State} (h : s.inTransfer = true) :
    initReceiverBody s = .error .initDuringTransfer := if_pos h

theorem initReceiverBody_of_armed {s : State} (h : s.inTransfer = false) (hie : s.edge.ie = true) :
    initReceiverBody s = .ok (s.complete .none) := by simp [initReceiverBody, h, hie]

/-- A return and a release write apart from each other, so their order does not matter. -/
theorem complete_releaseAndArm (s : State) (v : Ret) : (releaseAndArm s).complete v = releaseAndArm (s.complete v) := rfl

theorem initReceiverBody_of_unarmed {s : State} (h : s.inTransfer = false) (hie : s.edge.ie = false) :
    initReceiverBody s = .ok (releaseAndArm (s.complete .none)) := by
  simp [initReceiverBody, h, hie, complete_releaseAndArm]

/-- `INIT_RECEIVER`'s step, once its branch is chosen (R302). -/
theorem exec_initReceiver {s : State} {body : Except FaultCode State} (h : initReceiverBody s = body) :
    exec .initReceiver s = finish s body := h ▸ exec_eq_finish .initReceiver s rfl

/-- Settles O38: the command's three branches; arming has sampled the line, so `settle` adds nothing there. -/
theorem initReceiverArmsFromIdle : Obligations.InitReceiverArmsFromIdle := by
  refine ⟨rfl, fun s => ⟨fun ht => ?transfer, fun ht hie hc => ?armed, fun ht hie => ?unarmed⟩⟩
  case transfer => exact faultsOnly_of_finish_error (exec_initReceiver (initReceiverBody_of_inTransfer ht))
  case armed =>
    exact completes_of_finish_ok (exec_initReceiver (initReceiverBody_of_armed ht hie)) hc rfl ⟨rfl, rfl⟩
      (onlyChanges_complete s .none)
  case unarmed =>
    have hx := exec_initReceiver (initReceiverBody_of_unarmed ht hie)
    refine ⟨_, hx.trans (settle_releaseAndArm _), ?_, ?_, ?_, ?_, ?_, ?_, ?_, ?_, ?_, ?_, ?_, ?_,
      onlyChanges_trans (onlyChanges_complete s .none) (onlyChanges_releaseAndArm _)⟩
    all_goals simp

/-- Settles O39: the acceptance step of either command is the move of `MAINPC`. -/
theorem blockingCommandsOnlyMoveMainPc : Obligations.BlockingCommandsOnlyMoveMainPc := by
  refine ⟨fun b => decode_wordOf 0x0 0x2 b, rfl, fun s hc => ⟨fun b => ?transmit, ?receive⟩⟩
  case transmit =>
    exact completes_of_finish_ok (exec_eq_finish (.transmitByte b) s rfl) hc rfl
      ⟨reverseBits b, rfl, fun i hi => reverseBits_getLsbD b ⟨i, hi⟩⟩ (onlyChanges_setMainPc s _)
  case receive =>
    exact completes_of_finish_ok (exec_eq_finish .receiveByte s rfl) hc rfl rfl (onlyChanges_setMainPc s .rbWait)

theorem not_isEmpty_eq_decide (s : State) (r : RingSel) :
    (!s.isEmpty r) = decide ((s.ring r).head ≠ (s.ring r).tail) := by
  rw [State.isEmpty, beq_eq_decide, ← decide_not]

/-- Settles O40: each command returns what it reads; the last clears the flag first. -/
theorem statusCommandsReturnInOneStep : Obligations.StatusCommandsReturnInOneStep := by
  refine ⟨rfl, rfl, rfl, fun s hc => ⟨?available, ?read, ?clear⟩⟩
  case available =>
    exact completes_of_finish_ok (exec_eq_finish .dataAvailable s rfl) hc rfl
      ⟨congrArg Ret.bool (not_isEmpty_eq_decide s .rx), rfl⟩ (onlyChanges_complete s _)
  case read =>
    exact completes_of_finish_ok (exec_eq_finish .readRxOverflow s rfl) hc rfl ⟨rfl, rfl⟩ (onlyChanges_complete s _)
  case clear =>
    have hcleared : OnlyChanges [.rxOverflow] s { s with status := { s.status with rxOverflow := false } } :=
      onlyChanges_setStatus (by simp [statusParts, Unchanged])
    exact completes_of_finish_ok (exec_eq_finish .clearRxOverflow s rfl) hc rfl ⟨rfl, rfl, rfl⟩
      (onlyChanges_mono (by simp) (onlyChanges_trans hcleared (onlyChanges_complete _ .none)))

theorem flushBuffersBody_of_inTransfer {s : State} (h : s.inTransfer = true) :
    flushBuffersBody s = .error .flushDuringTransfer := if_pos h

theorem flushBuffersBody_of_idle {s : State} (h : s.inTransfer = false) :
    flushBuffersBody s = .ok ((rbFlush .rx (rbFlush .tx s)).complete .none) := by simp [flushBuffersBody, h]

/-- `FLUSH_BUFFERS`' step, once its branch is chosen (R310). -/
theorem exec_flushBuffers {s : State} {body : Except FaultCode State} (h : flushBuffersBody s = body) :
    exec .flushBuffers s = finish s body := h ▸ exec_eq_finish .flushBuffers s rfl

/-- Settles O41: the fault in a transfer, and otherwise a flush of each ring. -/
theorem flushBuffersEmptiesBothRings : Obligations.FlushBuffersEmptiesBothRings := by
  refine ⟨rfl, fun s => ⟨fun ht => ?transfer, fun ht hc => ?idle⟩⟩
  case transfer => exact faultsOnly_of_finish_error (exec_flushBuffers (flushBuffersBody_of_inTransfer ht))
  case idle =>
    have hflushed := onlyChanges_trans (onlyChanges_rbFlush .tx s) (onlyChanges_rbFlush .rx _)
    exact completes_of_finish_ok (exec_flushBuffers (flushBuffersBody_of_idle ht)) hc rfl ⟨rfl, rfl, rfl, rfl, rfl, rfl⟩
      (onlyChanges_mono (by simp) (onlyChanges_trans hflushed (onlyChanges_complete _ .none)))

/-! ### Micro-steps -/

/-- A micro-step completes when its body does, without a collision and with the edge detector left to `settle` (R301). -/
theorem microStep_of_body_ok {s u : State} (hx : microStepBody s = .ok u) (hc : u.collides = false)
    (hedge : u.edge = s.edge) : microStep s = .next u.settleEdge ∧ EdgeSettled s u.settleEdge := by
  refine ⟨?_, ?_, rfl⟩
  · rw [microStep, hx, finish_ok, settle_of_not_collides hc]
  · rw [settleEdge_line, settleEdge_edge, hedge]

theorem microStepBody_of_tbSpace {s : State} {v : Byte} (h : s.mainPc = .tbSpace v) :
    microStepBody s = tbSpace v s := by rw [microStepBody, h]

theorem microStepBody_of_tbCheck {s : State} (h : s.mainPc = .tbCheck) : microStepBody s = .ok (tbCheck s) := by
  rw [microStepBody, h]

theorem microStepBody_of_rbWait {s : State} (h : s.mainPc = .rbWait) : microStepBody s = rbWait s := by
  rw [microStepBody, h]

theorem tbSpace_of_full {s : State} (v : Byte) (h : s.isFull .tx = true) : tbSpace v s = .ok s := by
  simp [tbSpace, rbPush, h]

theorem tbSpace_of_room {s : State} (hv : s.cfg.valid = true) (v : Byte) (h : s.isFull .tx = false) :
    tbSpace v s = .ok { pushed .tx v s with mainPc := .tbCheck } := by
  rcases rbPush_cases hv .tx v with ⟨hfull, -⟩ | ⟨-, hp⟩
  · cases h.symm.trans hfull
  · rw [tbSpace, hp]; rfl

/-- Settles O42: the full ring, and the push that finds room. -/
theorem tbSpaceQueuesOrStays : Obligations.TbSpaceQueuesOrStays := by
  intro s v hv hpc hc tmp
  have hbody := microStepBody_of_tbSpace hpc
  cases hfull : s.isFull .tx
  case true =>
    obtain ⟨hx, hset⟩ := microStep_of_body_ok (hbody.trans (tbSpace_of_full v hfull)) hc rfl
    exact ⟨_, hx, hset, fun _ => onlyChanges_settleEdge (onlyChanges_refl [] s), fun h => absurd (isFull_iff.mp hfull) h⟩
  case false =>
    have hne : tmp ≠ s.tx.tail := fun h => Bool.false_ne_true (hfull.symm.trans (isFull_iff.mpr h))
    have hpushed : OnlyChanges [.head .tx, .slot .tx tmp] s (pushed .tx v s) := onlyChanges_pushed .tx v s
    have hslot : (pushed .tx v s).slot .tx tmp = v := (slot_pushed .tx v s tmp).trans (if_pos rfl)
    obtain ⟨hx, hset⟩ := microStep_of_body_ok (hbody.trans (tbSpace_of_room hv v hfull)) hc rfl
    exact ⟨_, hx, hset, fun h => absurd h hne, fun _ => ⟨rfl, rfl, hslot, onlyChanges_mono (by simp)
      (onlyChanges_settleEdge (onlyChanges_trans hpushed (onlyChanges_setMainPc _ .tbCheck)))⟩⟩

theorem tbCheck_of_transmitting {s : State} (h : s.status.txFromBufferActive = true) :
    tbCheck s = s.complete .none := if_pos h

theorem tbCheck_of_not_transmitting {s : State} (h : s.status.txFromBufferActive = false) :
    tbCheck s = { s with mainPc := .tbWaitRx } := if_neg (by simp [h])

/-- Settles O43: the return while a transmission runs, and the move to `TB_WAIT_RX`. -/
theorem tbCheckReturnsOrWaits : Obligations.TbCheckReturnsOrWaits := by
  intro s hpc hc
  have hbody := microStepBody_of_tbCheck hpc
  cases htx : s.status.txFromBufferActive
  case true =>
    rw [tbCheck_of_transmitting htx] at hbody
    obtain ⟨hx, hset⟩ := microStep_of_body_ok hbody hc rfl
    exact ⟨_, hx, hset, fun _ => ⟨rfl, rfl, onlyChanges_mono (by simp)
      (onlyChanges_settleEdge (onlyChanges_complete s .none))⟩, nofun⟩
  case false =>
    rw [tbCheck_of_not_transmitting htx] at hbody
    obtain ⟨hx, hset⟩ := microStep_of_body_ok hbody hc rfl
    exact ⟨_, hx, hset, nofun, fun _ => ⟨rfl, onlyChanges_mono (by simp)
      (onlyChanges_settleEdge (onlyChanges_setMainPc s .tbWaitRx))⟩⟩

theorem rbWait_of_empty {s : State} (h : s.isEmpty .rx = true) : rbWait s = .ok s := if_pos h

theorem rbWait_of_held {s : State} (hv : s.cfg.valid = true) (h : s.isEmpty .rx = false) :
    rbWait s = .ok ((popped .rx s).complete (.byte (reverseBits (s.slot .rx (s.nextIndex .rx s.rx.tail))))) := by
  rcases rbPop_cases hv .rx with ⟨hempty, -⟩ | ⟨-, hp⟩
  · cases h.symm.trans hempty
  · rw [rbWait, h, hp]; rfl

/-- Settles O45: the empty ring, and the pop that finds a byte. -/
theorem rbWaitReturnsTheReversedByte : Obligations.RbWaitReturnsTheReversedByte := by
  intro s hv hpc hc tmp
  have hbody := microStepBody_of_rbWait hpc
  cases hempty : s.isEmpty .rx
  case true =>
    obtain ⟨hx, hset⟩ := microStep_of_body_ok (hbody.trans (rbWait_of_empty hempty)) hc rfl
    exact ⟨_, hx, hset, fun _ => onlyChanges_settleEdge (onlyChanges_refl [] s),
      fun h => absurd (isEmpty_iff.mp hempty) h⟩
  case false =>
    have hne : s.rx.head ≠ s.rx.tail := fun h => Bool.false_ne_true (hempty.symm.trans (isEmpty_iff.mpr h))
    obtain ⟨hx, hset⟩ := microStep_of_body_ok (hbody.trans (rbWait_of_held hv hempty)) hc rfl
    exact ⟨_, hx, hset, fun h => absurd h hne, fun _ => ⟨rfl, rfl,
      ⟨_, rfl, fun i hi => reverseBits_getLsbD (s.slot .rx tmp) ⟨i, hi⟩⟩, onlyChanges_mono (by simp)
      (onlyChanges_settleEdge (onlyChanges_trans (onlyChanges_popped .rx s) (onlyChanges_complete _ _)))⟩⟩

/-! ### The environment's events -/

theorem decode_lineSetWord (l : Level) :
    decode (byteWord 0x71 (BitVec.zeroExtend 8 (BitVec.ofBool l))) = .instr (.lineSet l) := by
  cases l <;> rfl

theorem decode_gieSetWord (g : Bool) :
    decode (byteWord 0x72 (BitVec.zeroExtend 8 (BitVec.ofBool g))) = .instr (.gieSet g) := by
  cases g <;> rfl

/-- Settles O46: each event writes its input, and `settle` then sees the line, or the collision. -/
theorem environmentEventsSetTheirInput : Obligations.EnvironmentEventsSetTheirInput := by
  refine ⟨decode_lineSetWord, decode_gieSetWord, fun s => ⟨fun l hl => ?line, fun hout => ?collides, fun g hc => ?gie⟩⟩
  case line =>
    have hc : State.collides { s with extLevel := l } = false := collides_eq_false_iff.mpr hl.symm
    exact completes_of_finish_ok (exec_eq_finish (.lineSet l) s rfl) hc rfl ⟨rfl, fun hout => if_neg hout⟩
      (onlyChanges_setExtLevel s l)
  case collides =>
    have hc : State.collides { s with extLevel := false } = true := collides_iff.mpr ⟨hout, rfl⟩
    exact collidesAfter_of_finish_ok (exec_eq_finish (.lineSet false) s rfl) hc rfl rfl
      (onlyChanges_mono (by simp) (onlyChanges_setExtLevel s false))
  case gie => exact completes_of_finish_ok (exec_eq_finish (.gieSet g) s rfl) hc rfl rfl (onlyChanges_setGie s g)

end Sys2Proof.Proofs
end

section
/-! PROOFS. Refusals, the interrupt controller, faults and quiescence, and the handlers' part of the main flow (60_exceptions.md
R340 to R348). -/

namespace Sys2Proof.Proofs

open Sys2Proof.Machine Sys2Proof.Laws Sys2Proof.Safety

/-! ### Refusals -/

theorem step_of_fetchNext_refusal {s u : State} {reason : RefusalReason} (h : fetchNext s = .refusal reason u) :
    step s = refuse reason u := by simp [step, h]

theorem acceptWord_of_invalid {q : Request} {s : State} {e : DecodeError} (hd : decode q.word = .invalid e) :
    acceptWord q s = .refusal .reservedEncoding s := by simp [acceptWord, hd]

/-- An event's word is refused from anyone, a primitive's or a handler's from the host (R344). -/
theorem acceptWord_of_internal {q : Request} {s : State} {i : Instr} (hd : decode q.word = .instr i)
    (hc : i.cmdClass = .event ∨ (i.cmdClass ≠ .api ∧ q.issuer = .host)) :
    acceptWord q s = .refusal .internalCommand s := by
  rcases hc with hevent | ⟨hapi, hissuer⟩
  · simp [acceptWord, hd, hevent]
  · simp [acceptWord, hd, hapi, hissuer]

theorem envFetch_of_invalid {w : Word} {s : State} {e : DecodeError} (hd : decode w = .invalid e) :
    envFetch w s = .refusal .reservedEncoding s := by simp [envFetch, hd]

/-- The reserved mode, as a term, is refused (30_encoding.md R122; log 14). -/
theorem exec_srConfigure_reserved (k : ClkSource) (s : State) :
    exec (.srConfigure .reserved k) s = refuse .reservedEncoding s := by
  rw [exec, execSrConfigure, if_pos rfl]

/-! ### Quiescence -/

theorem quiescent_iff {s : State} : s.quiescent = true ↔ s.faults ≠ [] ∨ s.refused = true := by
  simp [State.quiescent]

theorem step_of_fetchNext_none {s : State} {f : Fault} (h : fetchNext s = .none f) : step s = .fault f := by
  simp [step, h]

theorem step_of_quiescent {s : State} (h : s.quiescent = true) : step s = .fault .quiescent :=
  step_of_fetchNext_none (if_pos h)

/-- Settles O7: `MAIN` and `ENV` refuse what they fetch, `SR_CONFIGURE` two of its forms, and a refusal is quiescent. -/
theorem refusedStepsOnlySetRefused : Obligations.RefusedStepsOnlySetRefused := by
  refine ⟨fun s q waiting rest e hq hs hpc hin hd => ?reserved, fun s w rest e hq hs hd => ?env,
    fun s q waiting rest i hq hs hpc hin hd hc => ?internal, fun s m hm => exec_srConfigure_toggle hm s,
    fun s k => exec_srConfigure_reserved k s, fun s hr => step_of_quiescent (quiescent_iff.mpr (.inr hr))⟩
  case reserved =>
    have hfetch := (fetchNext_of_sched hq hs).trans (mainFetch_of_ready hpc hin)
    exact step_of_fetchNext_refusal (hfetch.trans (acceptWord_of_invalid hd))
  case env => exact step_of_fetchNext_refusal ((fetchNext_of_sched hq hs).trans (envFetch_of_invalid hd))
  case internal =>
    have hfetch := (fetchNext_of_sched hq hs).trans (mainFetch_of_ready hpc hin)
    exact step_of_fetchNext_refusal (hfetch.trans (acceptWord_of_internal hd hc))

/-! ### The interrupt controller -/

theorem handlerEnabled_iff {s : State} {k : Irq} :
    s.handlerEnabled k = true ↔ s.gie = true ∧ s.interruptEnable k = true ∧ s.pending k = true := by
  simp [State.handlerEnabled, and_assoc]

/-- A handler is not taken exactly when it is not enabled or one of higher priority is (R345, R346). -/
theorem handlerTakeable_eq_false_iff {s : State} {k : Irq} :
    s.handlerTakeable k = false ↔ s.handlerEnabled k = false ∨ ∃ j ∈ k.higher, s.handlerEnabled j = true := by
  rw [State.handlerTakeable, Bool.and_eq_false_iff, List.all_eq_false]
  simp

theorem handlerTakeable_iff {s : State} {k : Irq} :
    s.handlerTakeable k = true ↔ s.handlerEnabled k = true ∧ ∀ j ∈ k.higher, ¬ s.handlerEnabled j = true := by
  simp [State.handlerTakeable]

theorem handlerEnabled_of_takeable {s : State} {k : Irq} (h : s.handlerTakeable k = true) :
    s.handlerEnabled k = true := (handlerTakeable_iff.mp h).1

/-- A handler's step that the controller does not take is no step (R346; log 9). -/
theorem step_handler_none {s : State} {k : Irq} {rest : List Agent} (hq : s.quiescent = false)
    (hs : s.sched = .handler k :: rest) (ht : s.handlerTakeable k = false) : step s = .fault .noAgentStep := by
  have ht' : State.handlerTakeable { s with sched := rest } k = false := ht
  exact step_of_fetchNext_none ((fetchNext_of_sched hq hs).trans (by simp [agentFetch, ht']))

/-- Settles O8: the controller's condition for each handler, and its negation. -/
theorem handlerStepNeedsEnableAndPriority : Obligations.HandlerStepNeedsEnableAndPriority := by
  intro s k rest hq hs
  refine ⟨fun ⟨hgie, hk⟩ => step_handler hq hs ?_, fun hk =>
    step_handler_none hq hs (handlerTakeable_eq_false_iff.mpr hk)⟩
  rw [handlerTakeable_iff]
  cases k
  case edge => exact ⟨handlerEnabled_iff.mpr ⟨hgie, hk⟩, nofun⟩
  case timerOvf =>
    obtain ⟨hie, hflag, hedge⟩ := hk
    refine ⟨handlerEnabled_iff.mpr ⟨hgie, hie, hflag⟩, fun j hj hen => ?_⟩
    obtain rfl : j = .edge := by simpa [Irq.higher] using hj
    exact hedge (handlerEnabled_iff.mp hen).2
  case srOvf =>
    obtain ⟨hie, hflag, hedge, htimer⟩ := hk
    refine ⟨handlerEnabled_iff.mpr ⟨hgie, hie, hflag⟩, fun j hj hen => ?_⟩
    obtain rfl | rfl : j = .edge ∨ j = .timerOvf := by simpa [Irq.higher] using hj
    · exact hedge (handlerEnabled_iff.mp hen).2
    · exact htimer (handlerEnabled_iff.mp hen).2

/-! ### Raised faults -/

/-- A fault that a step raises is its body's, or `settle`'s collision; the state it leaves has the code recorded (R341). -/
theorem finish_raised {s t : State} {c : FaultCode} {body : Except FaultCode State}
    (h : finish s body = .fault (.raised c t)) :
    (body = .error c ∨ c = .collision) ∧ ∃ u : State, t = u.recordFault c := by
  rcases finish_fault h with ⟨d, hd, heq⟩ | ⟨u, -, -, heq⟩ <;> cases heq
  · exact ⟨.inl hd, s, rfl⟩
  · exact ⟨.inr rfl, u.settleEdge, rfl⟩

theorem exec_raised {i : Instr} {s t : State} {c : FaultCode} (h : exec i s = .fault (.raised c t)) :
    (bodyOf i s = .error c ∨ c = .collision) ∧ ∃ u : State, t = u.recordFault c := by
  cases hr : refusedForm i
  · exact finish_raised ((exec_eq_finish i s hr).symm.trans h)
  · obtain ⟨r, hx⟩ := exec_refused i s hr
    cases hx.symm.trans h

/-- Every raised fault is recorded in the state it leaves (R341). -/
theorem eq_recordFault_of_step_raised {s t : State} {c : FaultCode} (h : step s = .fault (.raised c t)) :
    ∃ u : State, t = u.recordFault c := by
  rcases step_raised h with ⟨i, u, -, hx⟩ | ⟨u, -, hx⟩
  · exact (exec_raised hx).2
  · exact (finish_raised hx).2

/-- Settles O9: a recorded fault or refusal is quiescence, and a raised fault is recorded. -/
theorem quiescentMachineTakesNoStep : Obligations.QuiescentMachineTakesNoStep := by
  refine ⟨fun s h => step_of_quiescent (quiescent_iff.mpr h), fun s t c h => ?_⟩
  obtain ⟨u, rfl⟩ := eq_recordFault_of_step_raised h
  exact ⟨mem_insertCode.mpr (.inl rfl), step_of_quiescent (recordFault_quiescent u c)⟩

/-! ### The fault codes of the integrated machine -/

/-- A push faults only where the configuration is invalid: otherwise its slot is in range (41_ring_buffers.md R160). -/
theorem not_valid_of_rbPush_error {r : RingSel} {v : Byte} {s : State} {c : FaultCode}
    (h : rbPush r v s = .error c) : ¬ s.cfg.valid = true := by
  intro hv
  rcases rbPush_cases hv r v with ⟨-, hp⟩ | ⟨-, hp⟩ <;> cases hp.symm.trans h

/-- With a valid configuration a pop faults only on an empty ring (41_ring_buffers.md R163). -/
theorem isEmpty_of_rbPop_error {r : RingSel} {s : State} {c : FaultCode} (h : rbPop r s = .error c)
    (hv : s.cfg.valid = true) : s.isEmpty r = true := by
  rcases rbPop_cases hv r with ⟨hempty, -⟩ | ⟨-, hp⟩
  · exact hempty
  · cases hp.symm.trans h

theorem not_valid_of_tbSpace_error {v : Byte} {s : State} {c : FaultCode} (h : tbSpace v s = .error c) :
    ¬ s.cfg.valid = true := by
  unfold tbSpace at h
  split at h
  case h_1 hp => exact not_valid_of_rbPush_error hp
  all_goals cases h

theorem not_valid_of_rbWait_error {s : State} {c : FaultCode} (h : rbWait s = .error c) : ¬ s.cfg.valid = true := by
  intro hv
  cases hempty : s.isEmpty .rx
  · cases (rbWait_of_held hv hempty).symm.trans h
  · cases (rbWait_of_empty hempty).symm.trans h

/-- A micro-step's body faults only where the configuration is invalid: `RB_WAIT` pops only from a ring that holds a byte. -/
theorem not_valid_of_microStepBody_error {s : State} {c : FaultCode} (h : microStepBody s = .error c) :
    ¬ s.cfg.valid = true := by
  unfold microStepBody at h
  split at h
  case h_2 => exact not_valid_of_tbSpace_error h
  case h_5 => exact not_valid_of_rbWait_error h
  all_goals cases h

theorem isEmpty_of_loadNextByte_error {s : State} {c : FaultCode} (h : loadNextByte s = .error c)
    (hv : s.cfg.valid = true) : s.isEmpty .tx = true := by
  unfold loadNextByte at h
  split at h
  case h_1 hp => exact isEmpty_of_rbPop_error hp hv
  case h_2 => cases h

theorem not_valid_of_storeReceived_error {s : State} {c : FaultCode} (h : storeReceived s = .error c) :
    ¬ s.cfg.valid = true := by
  intro hv
  unfold storeReceived at h
  split at h
  case h_1 hp => exact not_valid_of_rbPush_error hp hv
  all_goals cases h

/-- With a valid configuration the overflow handler faults only while Idle: it pops only from a ring that holds a byte
(R240). -/
theorem inTransfer_eq_false_of_isrSrOvfBody_error {s : State} {c : FaultCode} (h : isrSrOvfBody s = .error c)
    (hv : s.cfg.valid = true) : s.inTransfer = false := by
  unfold isrSrOvfBody at h
  split_ifs at h with htx hhalf hempty hrx
  · exact absurd (isEmpty_of_loadNextByte_error h hv) hempty
  · exact absurd hv (not_valid_of_storeReceived_error h)
  · simp [State.inTransfer, htx, hrx]

/-- The edge handler faults only during a transfer (43_line_arbiter.md R215). -/
theorem inTransfer_of_isrEdgeBody_error {s : State} {c : FaultCode} (h : isrEdgeBody s = .error c) :
    s.inTransfer = true := by
  unfold isrEdgeBody at h
  split_ifs at h with ht
  exact ht

/-- The edge handler is armed only while Idle (R219, invariant 6). -/
theorem inTransfer_eq_false_of_armed {s : State} (hs : ConfigurationInv s) (hie : s.edge.ie = true) :
    s.inTransfer = false := by
  obtain ⟨-, -, -, -, -, harmed⟩ := hs
  exact inTransfer_eq_false_iff.mpr (harmed hie)

/-- The overflow handler is enabled only during a transfer (R219, invariant 4). -/
theorem inTransfer_of_srOvfIe {s : State} (hs : ConfigurationInv s) (hie : s.shift.ovfIe = true) :
    s.inTransfer = true := by
  by_contra h
  obtain ⟨-, -, -, hidle, -, -⟩ := hs
  obtain ⟨-, hoff, -⟩ := hidle (inTransfer_eq_false_iff.mp (by simpa using h))
  simp [hoff] at hie

/-- A handler's body faults only where its enable is not set: the invariants tie each enable to the line role. -/
theorem not_interruptEnable_of_handlerBody_error {k : Irq} {s : State} {c : FaultCode}
    (h : bodyOf k.instr s = .error c) (hs : ConfigurationInv s) (hv : s.cfg.valid = true) :
    ¬ s.interruptEnable k = true := by
  intro hie
  cases k
  case edge =>
    have hidle := inTransfer_eq_false_of_armed hs hie
    have ht : s.inTransfer = true := inTransfer_of_isrEdgeBody_error (s := s.enterHandler .edge) h
    simp [hidle] at ht
  case timerOvf => cases h
  case srOvf =>
    have ht := inTransfer_of_srOvfIe hs hie
    have hidle : s.inTransfer = false := inTransfer_eq_false_of_isrSrOvfBody_error (s := s.enterHandler .srOvf) h hv
    simp [hidle] at ht

/-- The codes that a host command's body raises are 2 and 3 (R302, R310). -/
theorem apiBody_error {i : Instr} {s : State} {c : FaultCode} (hc : i.cmdClass = .api) (h : bodyOf i s = .error c) :
    c = .initDuringTransfer ∨ c = .flushDuringTransfer := by
  cases i
  case initReceiver => exact .inl (initReceiverBody_error h)
  case flushBuffers => exact .inr (flushBuffersBody_error h)
  case transmitByte | receiveByte | dataAvailable | readRxOverflow | clearRxOverflow => cases h
  all_goals cases hc

theorem eventBody_ne_error {i : Instr} {s : State} (hc : i.cmdClass = .event) (c : FaultCode) :
    bodyOf i s ≠ .error c := by
  rcases event_cases hc with rfl | ⟨l, rfl⟩ | ⟨g, rfl⟩ | rfl <;> exact nofun

/-- The codes 1 to 3 of R341. -/
def IntegratedCode (c : FaultCode) : Prop :=
  c = .collision ∨ c = .initDuringTransfer ∨ c = .flushDuringTransfer

theorem cmdClass_handlerInstr (k : Irq) : k.instr.cmdClass = .handler := by cases k <;> rfl

/-- The handlers' commands are three different ones. -/
theorem handlerInstr_injective : Function.Injective Irq.instr := by
  intro j k h
  cases j <;> cases k
  case edge.edge | timerOvf.timerOvf | srOvf.srOvf => rfl
  all_goals cases h

/-- A handler that the integrated machine runs is one that the controller takes: the host may not issue its word (R347). -/
theorem handlerEnabled_of_fetchNext_run {s u : State} {k : Irq} (hs : Integrated s)
    (h : fetchNext s = .run k.instr u) : s.handlerEnabled k = true := by
  have hc : k.instr.cmdClass = .handler := cmdClass_handlerInstr k
  rcases (fetchNext_run h).2 with ⟨hi, -⟩ | ⟨_, -, hi, -⟩ | ⟨j, _, -, ht, hi, -⟩ | ⟨_, _, -, -, hevent, -⟩ |
    ⟨q, waiting, _, -, -, hin, -, hmay, -⟩
  · simp [hi, Instr.cmdClass] at hc
  · simp [hi, Instr.cmdClass] at hc
  · rw [handlerInstr_injective hi]
    exact handlerEnabled_of_takeable ht
  · simp [hc] at hevent
  · have hissuer : q.issuer = .host := hs q (by simp [hin])
    simp [hc, hissuer] at hmay

/-- The body of a command that the integrated machine runs raises codes 2 and 3 alone. -/
theorem integratedCode_of_bodyOf {s u : State} {i : Instr} {c : FaultCode} (hint : Integrated s)
    (hs : ConfigurationInv s) (hv : s.cfg.valid = true) (hf : fetchNext s = .run i u) (h : bodyOf i u = .error c) :
    IntegratedCode c := by
  obtain ⟨hc, -⟩ := integrated_of_fetchNext_run hint hf
  rcases hc with hc | hc | hc
  · exact .inr (apiBody_error hc h)
  · obtain ⟨k, rfl⟩ := handler_cases hc
    obtain ⟨-, hie, -⟩ := handlerEnabled_iff.mp (handlerEnabled_of_fetchNext_run hint hf)
    obtain ⟨waiting, rest, rfl⟩ := fetchNext_run_inputs hf
    exact (not_interruptEnable_of_handlerBody_error h (configurationInv_setInputs hs waiting rest) hv hie).elim
  · exact absurd h (eventBody_ne_error hc c)

/-- Settles O50: the invariants leave the integrated machine the codes 1 to 3. -/
theorem faultCodesFourToSevenAreUnreachable : Obligations.FaultCodesFourToSevenAreUnreachable := by
  intro s t c hint hs ⟨hv, _⟩ h
  have hcode : IntegratedCode c := by
    rcases step_raised h with ⟨i, u, hf, hx⟩ | ⟨u, hf, hx⟩
    · exact (exec_raised hx).1.elim (integratedCode_of_bodyOf hint hs hv hf) .inl
    · obtain ⟨-, rest, -, -, rfl⟩ := fetchNext_micro hf
      exact .inl ((finish_raised hx).1.resolve_left fun he => not_valid_of_microStepBody_error he hv)
  rcases hcode with rfl | rfl | rfl <;> exact ⟨nofun, nofun, nofun, nofun⟩

/-! ### The handlers and the main flow -/

/-- A handler's body writes neither `MAINPC`, `RET` nor `GIE` (R348). -/
theorem handlerBody_mainFlow {k : Irq} {s u : State} (h : bodyOf k.instr s = .ok u) :
    u.mainPc = s.mainPc ∧ u.ret = s.ret ∧ u.gie = s.gie := by
  cases k
  case edge => rcases (isrEdgeBody_ok h).2 with ⟨rfl, -⟩ | ⟨rfl, -⟩ <;> simp
  case timerOvf => cases h; simp
  case srOvf =>
    rcases isrSrOvfBody_ok h with ⟨-, -, rfl⟩ | ⟨-, -, -, rfl⟩ | ⟨-, -, q, v, rfl⟩ | ⟨-, -, q, o, -, rfl⟩
    all_goals simp

/-- A handler's body leaves its own flag clear: entry clears it, and nothing in the body sets it again (R348). -/
theorem handlerBody_pending {k : Irq} {s u : State} (h : bodyOf k.instr s = .ok u) : u.pending k = false := by
  cases k
  case edge => rcases (isrEdgeBody_ok h).2 with ⟨rfl, -⟩ | ⟨rfl, -⟩ <;> simp [State.pending]
  case timerOvf => cases h; simp [State.pending]
  case srOvf =>
    rcases isrSrOvfBody_ok h with ⟨-, -, rfl⟩ | ⟨-, -, -, rfl⟩ | ⟨-, -, q, v, rfl⟩ | ⟨-, -, q, o, -, rfl⟩
    all_goals simp [State.pending]

/-- The edge handler leaves the level last seen to `settle`. -/
theorem isrEdgeBody_lastLevel {s u : State} (h : isrEdgeBody s = .ok u) : u.edge.lastLevel = s.edge.lastLevel := by
  rcases (isrEdgeBody_ok h).2 with ⟨rfl, -⟩ | ⟨rfl, -⟩ <;> simp

/-- `settle` sets no handler's flag but the edge's. -/
theorem settleEdge_pending {k : Irq} (s : State) (hk : k ≠ .edge) : s.settleEdge.pending k = s.pending k := by
  cases k
  case edge => exact absurd rfl hk
  all_goals rfl

/-- Settles O54: the handler's body leaves its flag clear, and `settle` latches an edge only where the line has changed. -/
theorem handlersLeaveTheMainFlowAlone : Obligations.HandlersLeaveTheMainFlowAlone := by
  intro k s t h
  obtain ⟨-, u, hu, -, rfl⟩ := exec_next h
  obtain ⟨hpc, hret, hgie⟩ := handlerBody_mainFlow hu
  have hflag := handlerBody_pending hu
  refine ⟨hpc, hret, hgie, fun hk => (settleEdge_pending u hk).trans hflag, ?_⟩
  rintro rfl hlevel
  have hsame : u.edge.lastLevel = u.line := (isrEdgeBody_lastLevel (s := s.enterHandler .edge) hu).trans hlevel
  have hclear : u.edge.flag = false := hflag
  simp [State.pending, hclear, hsame]

end Sys2Proof.Proofs
end

section
/-! PROOFS. `RESET` forgets everything it does not keep (70_reset_and_hazards.md R380). -/

namespace Sys2Proof.Proofs

open Sys2Proof.Machine

/-- The reset state reads nothing of the old state but what `RESET` keeps, the level `EDGECTL.LAST_LEVEL` samples, and the
draw counter that the free values depend on (R65, R380). -/
theorem resetFields_congr {s u : State} (hcfg : s.cfg = u.cfg) (hext : s.extLevel = u.extLevel)
    (hfaults : s.faults = u.faults) (hrefused : s.refused = u.refused) (htime : s.time = u.time)
    (hdraws : s.draws = u.draws) (hinbox : s.inbox = u.inbox) (hsched : s.sched = u.sched) :
    resetFields s = resetFields u := by
  simp only [resetFields, hcfg, hext, hfaults, hrefused, htime, hdraws, hinbox, hsched]

/-- Settles O14: `RESET` completes in the reset state, which is the same for both. -/
theorem resetForgetsWhatItDoesNotKeep : Obligations.ResetForgetsWhatItDoesNotKeep := by
  intro s u hcfg hext hfaults hrefused htime hdraws hinbox hsched
  calc exec .reset s = .next (resetFields s) := exec_reset s
    _ = .next (resetFields u) :=
      congrArg _ (resetFields_congr hcfg hext hfaults hrefused htime hdraws hinbox hsched)
    _ = exec .reset u := (exec_reset u).symm

end Sys2Proof.Proofs
end
